-- ==== Sys2Proof/Word.lean ====
section
/-! DEFINITION. The word types of the PWM core, its channel and pair indices, and the two fixed-size banks indexed
by them (spec/00_scope.md R6, R15). -/

namespace Sys2Proof

/-- A 32-bit register value (R6: period, compare and counter are 32 bits wide). -/
abbrev Word := BitVec 32

/-- A 16-bit prescaler value, or the control word of a command (R6, R100). -/
abbrev Half := BitVec 16

/-- The 64 bits of a binary64 datum (R17). -/
abbrev F64 := BitVec 64

/-- The 80-bit command word `CMD` (R100). -/
abbrev Cmd := BitVec 80

/-- A channel index 1 to 4 (R6, `N_CH = 4`): of a timer channel, or of a motor channel. -/
inductive Channel where
  | c1 | c2 | c3 | c4
  deriving DecidableEq, Repr, Inhabited

/-- The index of a direction-pin pair, 1 to 3 (R6, `N_DIR = 3`). -/
inductive Pair where
  | p1 | p2 | p3
  deriving DecidableEq, Repr, Inhabited

/-- The two directions of the DirectionController (R48, R170). -/
inductive Direction where
  | forward | reverse
  deriving DecidableEq, Repr, Inhabited

/-- The number 1 to 4 of a channel. -/
def Channel.index : Channel → Nat
  | .c1 => 1
  | .c2 => 2
  | .c3 => 3
  | .c4 => 4

/-- The motor channel that owns a direction-pin pair: pair `m` belongs to motor channel `m` (R12). -/
def Pair.channel : Pair → Channel
  | .p1 => .c1
  | .p2 => .c2
  | .p3 => .c3

/-- One value for each of the four channels. -/
structure Quad (α : Type) where
  a1 : α
  a2 : α
  a3 : α
  a4 : α
  deriving DecidableEq, Repr

/-- One value for each of the three direction-pin pairs. -/
structure Triple (α : Type) where
  a1 : α
  a2 : α
  a3 : α
  deriving DecidableEq, Repr

/-- The value at channel `c`. -/
def Quad.get {α : Type} (v : Quad α) : Channel → α
  | .c1 => v.a1
  | .c2 => v.a2
  | .c3 => v.a3
  | .c4 => v.a4

/-- The bank with the value at channel `c` replaced. -/
def Quad.set {α : Type} (v : Quad α) : Channel → α → Quad α
  | .c1, x => { v with a1 := x }
  | .c2, x => { v with a2 := x }
  | .c3, x => { v with a3 := x }
  | .c4, x => { v with a4 := x }

/-- The bank that holds `x` at every channel. -/
def Quad.all {α : Type} (x : α) : Quad α := ⟨x, x, x, x⟩

/-- The value at pair `m`. -/
def Triple.get {α : Type} (v : Triple α) : Pair → α
  | .p1 => v.a1
  | .p2 => v.a2
  | .p3 => v.a3

/-- The bank with the value at pair `m` replaced. -/
def Triple.set {α : Type} (v : Triple α) : Pair → α → Triple α
  | .p1, x => { v with a1 := x }
  | .p2, x => { v with a2 := x }
  | .p3, x => { v with a3 := x }

/-- The bank that holds `x` at every pair. -/
def Triple.all {α : Type} (x : α) : Triple α := ⟨x, x, x⟩

end Sys2Proof
end

