-- ==== Sys2Proof/Syntax.lean ====
section
/-! DEFINITION. The commands (one constructor per row of spec/opcode_table.json), the micro-operations the sequencer
performs (spec/30_encoding.md R114), and the moves of the three agents (spec/00_scope.md R19). -/

namespace Sys2Proof

/-- The seven commands (R102). A field holds the raw bits of the command word: every value of every field is a legal
encoding, and a value outside the operation's range is an operand error with a fault of its own (R103, R104). -/
inductive Instr where
  /-- INITMOTOR, format N (R133). -/
  | initmotor
  /-- TIMEBASE, format T (R104, R130): `ckd = aux[5:4]`, `mode = aux[2:0]`, `prescaler = OPD[63:32]`,
  `period = OPD[31:0]`. -/
  | timebase (ckd : BitVec 2) (mode : BitVec 3) (prescaler : Word) (period : Word)
  /-- CHPWM, format C (R107, R131): the timer channel `ch` and `compare = OPD[31:0]`. -/
  | chpwm (ch : BitVec 4) (compare : Word)
  /-- START, format N (R132). -/
  | start
  /-- SIGN, format F (R108, R171): the motor channel `ch` and a binary64 value. -/
  | sign (ch : BitVec 4) (value : F64)
  /-- DUTY, format F (R108, R152): the motor channel `ch` and a binary64 value. -/
  | duty (ch : BitVec 4) (value : F64)
  /-- TORQUE, format F (R108, R153): the motor channel `ch` and a binary64 value. -/
  | torque (ch : BitVec 4) (value : F64)
  deriving DecidableEq, Repr, Inhabited

/-- The twelve registers of the timer register space, by name (R71). -/
inductive TimerReg where
  | cr1 | egr | ccmr1 | ccmr2 | ccer | cnt | psc | arr
  | ccr (c : Channel)
  deriving DecidableEq, Repr, Inhabited

/-- The three external-collaborator calls of INITMOTOR (R239). -/
inductive ExternalCall where
  | clockEnable | gpioConfigurePwmPins | gpioConfigureDirPins
  deriving DecidableEq, Repr, Inhabited

/-- The bookkeeping flags that the K micro-operation sets (R44). -/
inductive BookFlag where
  | tbDone
  | cfgd (c : Channel)
  | initDone
  deriving DecidableEq, Repr, Inhabited

/-- The seven kinds of micro-operation (R114). A register operand is the register's name and not its offset: an offset
outside the map of R71 cannot be written down (R72, R83). -/
inductive MicroOp where
  /-- `W(off, v)`: a register write (R77). -/
  | w (r : TimerReg) (v : Word)
  /-- `M(off, clr, set)`: a read-modify-write (R85). -/
  | m (r : TimerReg) (clr set : Word)
  /-- `P(m, a, b)`: both latches of a direction pair (R173). -/
  | p (pair : Pair) (a b : Bool)
  /-- `S(m, d)`: the debug scratch (R157). -/
  | s (pair : Pair) (d : F64)
  /-- `Z(r, g)`: the result registers of SIGN (R171). -/
  | z (dir : Direction) (mag : F64)
  /-- `X(name)`: a call of an external collaborator (R239). -/
  | x (call : ExternalCall)
  /-- `K(flag)`: sets a bookkeeping flag (R44). -/
  | k (flag : BookFlag)
  deriving DecidableEq, Repr, Inhabited

/-- What the observation port can show (R62): every item of R30 and every derived signal of R51 to R54. -/
inductive Item where
  | cr1 | ccmr1 | ccmr2 | ccer | cnt | psc | arr
  | ccr (c : Channel)
  | pscA | pscCnt | arrA
  | ccrA (c : Channel)
  | queue
  | tbDone
  | cfgd (c : Channel)
  | initDone
  | fault | cause | fcmd
  | dirA (m : Pair)
  | dirB (m : Pair)
  | resDir | resMag
  | dutyPrint (m : Pair)
  | ocRef (c : Channel)
  | pwmOut (c : Channel)
  | busy | cmdReady
  deriving DecidableEq, Repr, Inhabited

/-- One move of one agent (R19): the host offers a command word, asserts RESET, reads the register at a byte offset
or reads an item at the observation port; the sequencer takes its step; the timebase ticks. -/
inductive Move where
  | offer (cmd : Cmd)
  | reset
  | read (offset : Nat)
  | observe (item : Item)
  | sequencer
  | tick
  deriving DecidableEq, Repr, Inhabited

end Sys2Proof
end

