-- ==== Sys2Proof/Config.lean ====
section
/-! DEFINITION. What an implementation fixes (the parameters of spec/00_scope.md section 3) and what nothing fixes
(the choice of the next move, R19, R203 and spec/93_implementation_defined.md U18). -/

namespace Sys2Proof

/-- The arithmetic mode of the scaler (R11). -/
inductive Arith where
  | binary64 | exact
  deriving DecidableEq, Repr, Inhabited

/-- The implementation parameters (R8 to R13). The model carries them in State, so that a statement about every state
is a statement about every value of every parameter; no step changes them (R59, R252). Assumption log 4. -/
structure Params where
  /-- `PERIOD_PWM`, OPEN (R8). -/
  periodPwm : Word
  /-- `PRESCALER_PWM`, OPEN (R8). -/
  prescalerPwm : Half
  /-- `TORQUE_GAIN`, a finite binary64 above zero, OPEN (R9). -/
  torqueGain : F64
  /-- `TORQUE_CLAMP`: false is 0, the reference behaviour (R10). -/
  torqueClamp : Bool
  /-- `ARITH` (R11). -/
  arith : Arith
  /-- `TCH[1..4]`: the timer channel that serves a motor channel (R12). -/
  tch : Quad Channel
  /-- `SWAP[1..3]`: true (1) where pinB is the forward pin (R13). -/
  swap : Triple Bool
  deriving DecidableEq, Repr

namespace Config

/-- The parameter values that State.reset carries: the defaults of R10 to R13, and for the OPEN parameters the values
the test vectors use (R8, R9; 92_eei_decisions.md D29, D40). DESIGN CHOICE, unsafe for whoever rests on them: a part
may be built with other values. No statement of the package rests on them. Assumption log 4. -/
def defaultParams : Params where
  periodPwm := 1000#32
  prescalerPwm := 0#16
  torqueGain := 0x40504851EB851EB8#64
  torqueClamp := false
  arith := .binary64
  tch := ⟨.c1, .c2, .c3, .c4⟩
  swap := ⟨false, true, true⟩

/-- THE FREE VALUE of the model: which agent moves at the n-th free choice, and what the host does if it is the host.
The spec fixes no schedule (R19, R203, U18: any value, chosen afresh at every step by the environment), so this
constant has no body and nothing can be proved of it. Assumption log 1. -/
opaque freeMove : Nat → Move

end Config

end Sys2Proof
end

