-- ==== Sys2Proof/WellFormed.lean ====
section
/-! DEFINITION. Which operands are within the ranges the spec gives them, read from the command alone (spec/30_encoding.md
R103, R105, R106), and which parameter records an implementation may have (spec/00_scope.md R9, R12, R13). Every
instruction has an encoding; an ill-formed one is an operand error, not an illegal word. -/

namespace Sys2Proof

/-- A channel field of CHPWM or DUTY: 1 to 4 (R103, R115 step 3). -/
def channelInRange (ch : BitVec 4) : Bool := decide (1 ≤ ch.toNat) && decide (ch.toNat ≤ 4)

/-- A channel field of SIGN or TORQUE: 1 to 3 (R103, R115 step 3). -/
def pairInRange (ch : BitVec 4) : Bool := decide (1 ≤ ch.toNat) && decide (ch.toNat ≤ 3)

/-- The counter mode is a member of its enumeration (R105). -/
def modeInRange (mode : BitVec 3) : Bool := decide (mode.toNat ≤ 4)

/-- The clock division is a member of its enumeration (R106). -/
def ckdInRange (ckd : BitVec 2) : Bool := decide (ckd.toNat ≤ 2)

/-- The operand ranges that depend on the command word alone (R115 steps 3 and 4). -/
def Instr.wellFormed : Instr → Bool
  | .initmotor => true
  | .timebase ckd mode _ _ => ckdInRange ckd && modeInRange mode
  | .chpwm ch _ => channelInRange ch
  | .start => true
  | .sign ch _ => pairInRange ch
  | .duty ch _ => channelInRange ch
  | .torque ch _ => pairInRange ch

/-- `TORQUE_GAIN` is finite and greater than zero (R9). -/
def gainOk (g : F64) : Bool :=
  !g.getLsbD 63 && decide (g.extractLsb' 52 11 ≠ 2047#11) && decide (g ≠ 0#64)

/-- `TCH` is injective (R12). -/
def tchOk (t : Quad Channel) : Bool :=
  decide (t.a1 ≠ t.a2) && decide (t.a1 ≠ t.a3) && decide (t.a1 ≠ t.a4) &&
    decide (t.a2 ≠ t.a3) && decide (t.a2 ≠ t.a4) && decide (t.a3 ≠ t.a4)

/-- Channels 1 and 2/3 use opposite sign-to-pin conventions (R13). -/
def swapOk (w : Triple Bool) : Bool := decide (w.a1 ≠ w.a2) && decide (w.a2 = w.a3)

/-- The conditions R9, R12 and R13 put on the parameters. -/
def Params.wellFormed (p : Params) : Bool := gainOk p.torqueGain && tchOk p.tch && swapOk p.swap

end Sys2Proof
end

