-- ==== Sys2Proof/Decode.lean ====
section
/-! DEFINITION. The decoder and the encoder of the 80-bit command word (spec/30_encoding.md R100 to R111). -/

namespace Sys2Proof

/-- Why a command word is illegal (R110). -/
inductive DecodeError where
  /-- R110 (a): `op` is 0x0 or 0x8 to 0xF. -/
  | undefinedOpcode
  /-- R110 (b): a field that the format reserves is not zero. -/
  | reservedField
  deriving DecidableEq, Repr

/-- `CW[15:12] = CMD[79:76]`, the opcode (R100). -/
def opField (w : Cmd) : BitVec 4 := w.extractLsb' 76 4

/-- `CW[11:8] = CMD[75:72]`, the channel field (R100). -/
def chField (w : Cmd) : BitVec 4 := w.extractLsb' 72 4

/-- `CW[7:0] = CMD[71:64]`, the auxiliary field (R100). -/
def auxField (w : Cmd) : BitVec 8 := w.extractLsb' 64 8

/-- `CMD[63:0]`, the operand (R100). -/
def opdField (w : Cmd) : BitVec 64 := w.extractLsb' 0 64

/-- `CMD[79:64]`, the control word that a fault records (R100, R231). -/
def controlField (w : Cmd) : Half := w.extractLsb' 64 16

/-- The instruction where the reserved fields of its format are zero (R110 (b)). -/
def ifReservedZero (zero : Bool) (i : Instr) : Except DecodeError Instr :=
  if zero then .ok i else .error .reservedField

/-- Format N: `ch`, `aux` and `OPD` are reserved (R101). -/
def decodeN (w : Cmd) (i : Instr) : Except DecodeError Instr :=
  ifReservedZero (decide (chField w = 0#4) && decide (auxField w = 0#8) && decide (opdField w = 0#64)) i

/-- Format T: `ch`, `aux[7:6]` and `aux[3]` are reserved (R101, R104). -/
def decodeT (w : Cmd) : Except DecodeError Instr :=
  ifReservedZero
    (decide (chField w = 0#4) && decide ((auxField w).extractLsb' 6 2 = 0#2) && !(auxField w).getLsbD 3)
    (.timebase ((auxField w).extractLsb' 4 2) ((auxField w).extractLsb' 0 3)
      ((opdField w).extractLsb' 32 32) ((opdField w).extractLsb' 0 32))

/-- Format C: `aux` and `OPD[63:32]` are reserved (R101, R107). -/
def decodeC (w : Cmd) : Except DecodeError Instr :=
  ifReservedZero (decide (auxField w = 0#8) && decide ((opdField w).extractLsb' 32 32 = 0#32))
    (.chpwm (chField w) ((opdField w).extractLsb' 0 32))

/-- Format F: `aux` is reserved (R101, R108). -/
def decodeF (w : Cmd) (i : Instr) : Except DecodeError Instr :=
  ifReservedZero (decide (auxField w = 0#8)) i

/-- The decoder (R102, R110): every word is one command or is illegal, and each word is decoded from its own bits
alone (R111). -/
def decode (w : Cmd) : Except DecodeError Instr :=
  match (opField w).toNat with
  | 1 => decodeN w .initmotor
  | 2 => decodeT w
  | 3 => decodeC w
  | 4 => decodeN w .start
  | 5 => decodeF w (.sign (chField w) (opdField w))
  | 6 => decodeF w (.duty (chField w) (opdField w))
  | 7 => decodeF w (.torque (chField w) (opdField w))
  | _ => .error .undefinedOpcode

/-- The command word with the given fields (R100). -/
def commandWord (op ch : BitVec 4) (aux : BitVec 8) (opd : BitVec 64) : Cmd :=
  op ++ ch ++ aux ++ opd

/-- The auxiliary field of format T, `{0b00, ckd[1:0], 0b0, mode[2:0]}` (R101). -/
def timebaseAux (ckd : BitVec 2) (mode : BitVec 3) : BitVec 8 :=
  0#2 ++ ckd ++ 0#1 ++ mode

/-- The opcode of a command (R102). -/
def Instr.opcode : Instr → BitVec 4
  | .initmotor => 1#4
  | .timebase _ _ _ _ => 2#4
  | .chpwm _ _ => 3#4
  | .start => 4#4
  | .sign _ _ => 5#4
  | .duty _ _ => 6#4
  | .torque _ _ => 7#4

/-- The encoder: the command word of an instruction (R100 to R108). -/
def encode : Instr → Cmd
  | .initmotor => commandWord 1#4 0#4 0#8 0#64
  | .timebase ckd mode prescaler period => commandWord 2#4 0#4 (timebaseAux ckd mode) (prescaler ++ period)
  | .chpwm ch compare => commandWord 3#4 ch 0#8 (0#32 ++ compare)
  | .start => commandWord 4#4 0#4 0#8 0#64
  | .sign ch value => commandWord 5#4 ch 0#8 value
  | .duty ch value => commandWord 6#4 ch 0#8 value
  | .torque ch value => commandWord 7#4 ch 0#8 value

/-- The control word of a command, which a fault of that command records in FCMD (R231). -/
def controlWord (i : Instr) : Half := controlField (encode i)

/-- The instruction that the decoder reads from a table row's word. A command is one word of 80 bits, so the table's
numbering of the bits is the numbering of R100, and the bits above `nbits` are 0. -/
def decodeTableWord (nbits w : Nat) : Option Instr :=
  let v := w % 2 ^ nbits
  if v < 2 ^ 80 then
    match decode (BitVec.ofNat 80 v) with
    | .ok i => some i
    | .error _ => none
  else none

end Sys2Proof
end

