-- ==== Sys2Proof/Machine/State.lean ====
section
/-! DEFINITION. The state of the PWM core (spec/10_state.md R30), what a step can answer with besides a next state, and
the state after reset (R60, spec/70_reset_and_hazards.md R250). -/

namespace Sys2Proof.Machine

/-- What the host saw at its last read of the register bus (R76) or of the observation port (R62). A notion of the
model, not state of the core. -/
inductive Seen where
  | nothing
  | bits (width value : Nat)
  | queue (ops : List MicroOp)
  deriving DecidableEq, Repr

/-- The environment of the core, held as plain data. None of it is state of the core (R59); it is what lets one
deterministic step function show every interleaving of the three agents (R19). Assumption logs 1, 5. -/
structure Env where
  /-- The next moves of the agents, as far as they are fixed. -/
  script : List Move
  /-- How many free choices of a move have been made; `Config.freeMove` is applied to it. -/
  clock : Nat
  /-- The run's trace of performed micro-operations, newest first (R239, R241). -/
  trace : List MicroOp
  /-- What the host's last read returned. -/
  seen : Seen
  deriving DecidableEq, Repr

/-- The state of the PWM core, complete by R30, with the parameters it is built with and its environment. -/
structure State where
  /-- The implementation parameters (00_scope.md R8 to R13). -/
  cfg : Params
  /-- CR1 (R31). -/
  cr1 : Word
  /-- CCMR1 (R33). -/
  ccmr1 : Word
  /-- CCMR2 (R34). -/
  ccmr2 : Word
  /-- CCER (R36). -/
  ccer : Word
  /-- CNT, the counter (R37). -/
  cnt : Word
  /-- PSC, the prescaler's preload register (R38). -/
  psc : Half
  /-- PSC_A, the active prescaler (R38). -/
  pscA : Half
  /-- PSC_CNT, the prescaler counter (R38). -/
  pscCnt : Half
  /-- ARR, the auto-reload preload register (R39). -/
  arr : Word
  /-- ARR_A, the active period (R39). -/
  arrA : Word
  /-- CCR1 to CCR4, the pending compare values (R40). -/
  ccr : Quad Word
  /-- CCR1_A to CCR4_A, the active compare values (R40). -/
  ccrA : Quad Word
  /-- Q, the micro-operation queue, oldest first (R46). -/
  q : List MicroOp
  /-- TBDONE (R44). -/
  tbDone : Bool
  /-- CFGD[1..4] (R44). -/
  cfgd : Quad Bool
  /-- INIT_DONE (R44). -/
  initDone : Bool
  /-- FAULT (R45). -/
  fault : Bool
  /-- CAUSE (R45, R221). -/
  cause : BitVec 3
  /-- FCMD (R45, R231). -/
  fcmd : Half
  /-- DIRA[1..3], the levels of pinA (R47). -/
  dirA : Triple Bool
  /-- DIRB[1..3], the levels of pinB (R47). -/
  dirB : Triple Bool
  /-- RES_DIR (R49): `forward` is 0, `reverse` is 1. -/
  resDir : Direction
  /-- RES_MAG (R49). -/
  resMag : F64
  /-- DUTYPRINT[1..3], the debug scratch (R50). -/
  dutyPrint : Triple F64
  /-- The environment: not state of the core. -/
  env : Env
  deriving DecidableEq, Repr

/-- The reasons for which a step of this machine stops with a fault: there are NONE. The one exceptional event of the
hardware, the precondition fault (60_exceptions.md R220, R232), sets the fault latch and is a next state; every
register access succeeds (R220); the hardware never halts (R243). Assumption log 16. -/
inductive Fault where
  deriving DecidableEq, Repr

/-- What the model refuses. Only `notModelled` would be about a command; the others are the four places where the
spec itself says that a model refuses. Each is safe: it stops where the spec gives no behaviour. -/
inductive Refusal where
  /-- Raised by no arm: every command has its meaning. Safe. -/
  | notModelled (mnemonic : String)
  /-- Raised by a tick with CR1.CEN = 1 and a counter mode other than Up: no semantics (43_timebase_operation.md R196,
  93_implementation_defined.md U6). Safe. -/
  | tickInUndefinedMode
  /-- Raised by a tick with CR1.CEN = 1 in mode Up and CKD = 11, a value that a model gives no meaning and refuses if it
  is met (10_state.md R42, 93_implementation_defined.md U13). No command writes it. Safe. -/
  | clockDivisionWithoutMeaning
  /-- Raised by a host read of an offset that no register has (20_memory.md R83, U15). Safe. -/
  | unassignedOffset (offset : Nat)
  /-- Raised by the observation of a channel's reference, or of its enabled output, while its output-compare mode has
  no meaning (10_state.md R35, R54, U7). Safe. -/
  | referenceWithoutMeaning (c : Channel)
  deriving DecidableEq, Repr

/-- The environment with nothing scripted, nothing recorded and no free choice made. Assumption log 5. -/
def Env.empty : Env where
  script := []
  clock := 0
  trace := []
  seen := .nothing

/-- The state of R60 in a core built with the parameters `p`, in the environment `e`. -/
def State.resetWith (p : Params) (e : Env) : State where
  cfg := p
  cr1 := 0#32
  ccmr1 := 0#32
  ccmr2 := 0#32
  ccer := 0#32
  cnt := 0#32
  psc := 0#16
  pscA := 0#16
  pscCnt := 0#16
  arr := 0xFFFFFFFF#32
  arrA := 0xFFFFFFFF#32
  ccr := Quad.all 0#32
  ccrA := Quad.all 0#32
  q := []
  tbDone := false
  cfgd := Quad.all false
  initDone := false
  fault := false
  cause := 0#3
  fcmd := 0#16
  dirA := Triple.all false
  dirB := Triple.all false
  resDir := .forward
  resMag := 0#64
  dutyPrint := Triple.all 0#64
  env := e

/-- The machine right after reset (R60). -/
def State.reset : State := State.resetWith Config.defaultParams Env.empty

end Sys2Proof.Machine
end

