-- ==== Sys2Proof/Machine/Flags.lean ====
section
/-! DEFINITION. The fields of the registers (spec/10_state.md R31 to R41) and the signals that are functions of the state
(R48, R51 to R54). The hardware has no arithmetic flags (R56). -/

namespace Sys2Proof.Machine

/-- `CR1.CEN`, bit 0 (R31). -/
def State.cen (s : State) : Bool := s.cr1.getLsbD 0

/-- `CR1.DIR`, bit 4 (R31). -/
def State.dir (s : State) : Bool := s.cr1.getLsbD 4

/-- `CR1[6:4] = {CMS, DIR}`, the counter-mode field (R31). -/
def State.counterMode (s : State) : BitVec 3 := s.cr1.extractLsb' 4 3

/-- `CR1.ARPE`, bit 7 (R31). -/
def State.arpe (s : State) : Bool := s.cr1.getLsbD 7

/-- `CR1.CKD`, bits 9:8 (R31). -/
def State.ckd (s : State) : BitVec 2 := s.cr1.extractLsb' 8 2

/-- `MR(c)`: the mode register that serves channel `c` (R41). -/
def modeReg : Channel → TimerReg
  | .c1 => .ccmr1
  | .c2 => .ccmr1
  | .c3 => .ccmr2
  | .c4 => .ccmr2

/-- `SH(c)`: the shift of channel `c`'s byte in its mode register (R41). -/
def byteShift : Channel → Nat
  | .c1 => 0
  | .c2 => 8
  | .c3 => 0
  | .c4 => 8

/-- `SL(c) = 4 × (c − 1)`: the shift of channel `c`'s slot in CCER (R41). -/
def slotShift (c : Channel) : Nat := 4 * (c.index - 1)

/-- The contents of the mode register that serves channel `c` (R33, R34). -/
def State.modeWord (s : State) : Channel → Word
  | .c1 => s.ccmr1
  | .c2 => s.ccmr1
  | .c3 => s.ccmr2
  | .c4 => s.ccmr2

/-- `OCcM`, bits 6:4 of channel `c`'s byte (R33, R35). -/
def State.ocMode (s : State) (c : Channel) : BitVec 3 := (s.modeWord c).extractLsb' (byteShift c + 4) 3

/-- `OCcPE`, bit 3 of channel `c`'s byte (R33). -/
def State.ocPreload (s : State) (c : Channel) : Bool := (s.modeWord c).getLsbD (byteShift c + 3)

/-- `CCcE`, bit 0 of channel `c`'s slot (R36). -/
def State.ccEnable (s : State) (c : Channel) : Bool := s.ccer.getLsbD (slotShift c)

/-- `CCcP`, bit 1 of channel `c`'s slot (R36). -/
def State.ccPolarity (s : State) (c : Channel) : Bool := s.ccer.getLsbD (slotShift c + 1)

/-- `OCREF[c]` (R54). None where the mode has no meaning (R35, U7). -/
def State.ocRef (s : State) (c : Channel) : Option Bool :=
  if s.ocMode c = 6#3 then some (decide (s.cnt < s.ccrA.get c))
  else if s.ocMode c = 0#3 then some false
  else none

/-- `PWM_OUT[c]` (R51). None where the output is enabled and the reference has no meaning. -/
def State.pwmOut (s : State) (c : Channel) : Option Bool :=
  if s.ccEnable c then (s.ocRef c).map (fun r => r ^^ s.ccPolarity c)
  else some false

/-- `BUSY` (R53). -/
def State.busy (s : State) : Bool := !s.q.isEmpty

/-- `CMD_READY` (R53). -/
def State.cmdReady (s : State) : Bool := s.q.isEmpty && !s.fault

/-- `CFGD[1..4]` are all 1 (R115 step 5). -/
def State.allConfigured (s : State) : Bool :=
  s.cfgd.a1 && s.cfgd.a2 && s.cfgd.a3 && s.cfgd.a4

/-- The state names of a direction pair (R48). -/
inductive PairState where
  | bothOff | forwardAsserted | reverseAsserted
  deriving DecidableEq, Repr

/-- The level of the forward pin of pair `m`: pinA where `SWAP[m] = 0`, pinB where it is 1 (R13). -/
def State.forwardPin (s : State) (m : Pair) : Bool :=
  if s.cfg.swap.get m then s.dirB.get m else s.dirA.get m

/-- The level of the reverse pin of pair `m` (R13). -/
def State.reversePin (s : State) (m : Pair) : Bool :=
  if s.cfg.swap.get m then s.dirA.get m else s.dirB.get m

/-- The state of pair `m` (R48). None where both pins are asserted, which no reachable state has (R174). -/
def State.pairState (s : State) (m : Pair) : Option PairState :=
  match s.forwardPin m, s.reversePin m with
  | false, false => some .bothOff
  | true, false => some .forwardAsserted
  | false, true => some .reverseAsserted
  | true, true => none

end Sys2Proof.Machine
end

