-- ==== Sys2Proof/Machine/Operands.lean ====
section
/-! DEFINITION. Every operand form: the channel fields (spec/30_encoding.md R103, R109), the counter mode (R105), the
register offsets (spec/20_memory.md R71), binary64 (spec/00_scope.md R17, R18), the saturator and the scaler
(spec/41_duty_cycle_controller.md R150, R151), the torque path (R154 to R156), and the sign split
(spec/42_direction_controller.md R170, R172). -/

namespace Sys2Proof.Machine

/-- The channel that a raw channel field of CHPWM or DUTY names; none for the malformed indices 0 and 5 to 15
(R103). -/
def channelOf (ch : BitVec 4) : Option Channel :=
  match ch.toNat with
  | 1 => some .c1
  | 2 => some .c2
  | 3 => some .c3
  | 4 => some .c4
  | _ => none

/-- The pair that a raw channel field of SIGN or TORQUE names; none for 0 and 4 to 15 (R103, R177). -/
def pairOf (ch : BitVec 4) : Option Pair :=
  match ch.toNat with
  | 1 => some .p1
  | 2 => some .p2
  | 3 => some .p3
  | _ => none

/-- `MODEBITS(mode)`, the bits written to CR1[6:4]; none for the values that are no member of the enumeration
(R105). -/
def modeBits (mode : BitVec 3) : Option (BitVec 3) :=
  match mode.toNat with
  | 0 => some 0b000#3
  | 1 => some 0b001#3
  | 2 => some 0b010#3
  | 3 => some 0b100#3
  | 4 => some 0b110#3
  | _ => none

/-- The clock-division ordinal as it is written to CR1[9:8]; none for 3 (R106). -/
def ckdBits (ckd : BitVec 2) : Option (BitVec 2) :=
  if ckd = 3#2 then none else some ckd

/-- The byte offset of a register (R71). -/
def regOffset : TimerReg → Nat
  | .cr1 => 0x00
  | .egr => 0x14
  | .ccmr1 => 0x18
  | .ccmr2 => 0x1C
  | .ccer => 0x20
  | .cnt => 0x24
  | .psc => 0x28
  | .arr => 0x2C
  | .ccr c => 0x34 + 4 * (c.index - 1)

/-- The register at a byte offset; none for the unassigned offsets (R71, R83). -/
def regAt (offset : Nat) : Option TimerReg :=
  match offset with
  | 0x00 => some .cr1
  | 0x14 => some .egr
  | 0x18 => some .ccmr1
  | 0x1C => some .ccmr2
  | 0x20 => some .ccer
  | 0x24 => some .cnt
  | 0x28 => some .psc
  | 0x2C => some .arr
  | 0x34 => some (.ccr .c1)
  | 0x38 => some (.ccr .c2)
  | 0x3C => some (.ccr .c3)
  | 0x40 => some (.ccr .c4)
  | _ => none

/-! ### binary64 (R17) -/

/-- The exponent field `b[62:52]` (R17). -/
def expField (b : F64) : Nat := (b.extractLsb' 52 11).toNat

/-- The fraction field `b[51:0]` (R17). -/
def fracField (b : F64) : Nat := (b.extractLsb' 0 52).toNat

/-- The sign bit `b[63]` (R17). -/
def signBit (b : F64) : Bool := b.getLsbD 63

/-- `isNaN` (R17). -/
def isNaN (b : F64) : Bool := expField b == 2047 && fracField b != 0

/-- `isInf` (R17). -/
def isInf (b : F64) : Bool := expField b == 2047 && fracField b == 0

/-- `isZero` (R17). -/
def isZero (b : F64) : Bool := expField b == 0 && fracField b == 0

/-- `lt0`, the test "value < 0" (R17): false for −0.0, true for −inf. -/
def lt0 (b : F64) : Bool := !isNaN b && signBit b && !isZero b

/-- `gt1`, the test "value > 1.0" (R17): true for +inf. -/
def gt1 (b : F64) : Bool := !isNaN b && !signBit b && decide (0x3FF0000000000000 < b.toNat)

/-- `neg`, exact negation (R17). -/
def negF64 (b : F64) : F64 := b ^^^ 0x8000000000000000#64

/-- The bit pattern of `+inf` (R17). -/
def infBits : F64 := 0x7FF0000000000000#64

/-- A non-negative rational `num / 2 ^ exp`. Every value the rules form (a finite binary64, its product with PERIOD_PWM
or with the gain, the product of those) is one, so the arithmetic of R151 and R154 is exact. Assumption log 9. -/
structure Frac where
  num : Nat
  exp : Nat
  deriving DecidableEq, Repr

/-- `|val(b)|` of a finite `b` (R17): the subnormal formula where `e = 0`, the normal one where `1 ≤ e ≤ 2046`, both
in units of `2 ^ (−1074)`. -/
def magnitude (b : F64) : Frac :=
  if expField b = 0 then ⟨fracField b, 1074⟩
  else ⟨(2 ^ 52 + fracField b) * 2 ^ (expField b - 1), 1074⟩

/-- `rne(n / 2 ^ d)`: the nearest integer, the even one of two equally near (R18). -/
def roundHalfEven (n d : Nat) : Nat :=
  let whole := n / 2 ^ d
  let rest := n % 2 ^ d
  if 2 ^ d < 2 * rest then whole + 1
  else if 2 * rest = 2 ^ d then whole + whole % 2
  else whole

/-- `round64(q)` (R18). With `q = n / 2 ^ s`, `s ≥ 1074`, the `k + 1022` of R18 is `j`, and `q × 2 ^ (52 − k)` is
`n / 2 ^ (s − 1074 + j)`. -/
def round64 (v : Frac) : F64 :=
  if v.num = 0 then 0#64
  else
    let n := v.num * 2 ^ (1074 - v.exp)
    let s := max v.exp 1074
    let j := (Nat.log2 n + 1022) - s
    BitVec.ofNat 64 (min (j * 2 ^ 52 + roundHalfEven n (s - 1074 + j)) 0x7FF0000000000000)

/-- The greatest integer not above the value (R16). -/
def Frac.floor (v : Frac) : Nat := v.num / 2 ^ v.exp

/-- The product with a natural number. -/
def Frac.scaleNat (v : Frac) (n : Nat) : Frac := ⟨v.num * n, v.exp⟩

/-- The product of two values. -/
def Frac.mul (v u : Frac) : Frac := ⟨v.num * u.num, v.exp + u.exp⟩

/-- The value 0. -/
def Frac.zero : Frac := ⟨0, 0⟩

/-- The value 1. -/
def Frac.one : Frac := ⟨1, 0⟩

/-- `min(v, 1)` (R155). -/
def Frac.minOne (v : Frac) : Frac := if 2 ^ v.exp < v.num then Frac.one else v

/-! ### The saturator and the scaler -/

/-- `CLAMP01` (R150). -/
def clamp01 (d : F64) : Frac :=
  if lt0 d then Frac.zero
  else if gt1 d then Frac.one
  else magnitude d

/-- `SCALE` (R151), none for `overflow`. The period is the parameter PERIOD_PWM, not ARR (90_conflicts.md C7). -/
def scale (p : Params) (v : Frac) : Option Nat :=
  let product := v.scaleNat p.periodPwm.toNat
  match p.arith with
  | .exact => some product.floor
  | .binary64 => if round64 product = infBits then none else some (magnitude (round64 product)).floor

/-- The compare count of a value that must fit the 32-bit register (R156): none where it is `overflow` or at least
`2 ^ 32`. -/
def countFitting (p : Params) (v : Frac) : Option Word :=
  match scale p v with
  | none => none
  | some n => if n < 2 ^ 32 then some (BitVec.ofNat 32 n) else none

/-- The compare count of DUTY, `SCALE(CLAMP01(d))` (R152). SCALE of a value in [0, 1] is at most PERIOD_PWM and never
`overflow` (R151), so the 0 for the other case stands for nothing that can happen. Assumption log 10. -/
def dutyCount (p : Params) (d : F64) : Word := (countFitting p (clamp01 d)).getD 0#32

/-! ### The torque path -/

/-- An extended non-negative value (R18, 41_duty_cycle_controller.md): a rational or `inf`. -/
inductive Extended where
  | fin (v : Frac)
  | inf
  deriving DecidableEq, Repr

/-- `mag` of the gain stage (R154). -/
def torqueMag (t : F64) : Extended := if isInf t then .inf else .fin (magnitude t)

/-- `dp` of the gain stage, the scratch value, the same in both arithmetic modes (R154). -/
def torqueScratch (p : Params) (t : F64) : F64 :=
  match torqueMag t with
  | .inf => infBits
  | .fin v => round64 ((magnitude p.torqueGain).mul v)

/-- `x` of the gain stage, the duty-cycle-equivalent value (R154). -/
def torqueDuty (p : Params) (t : F64) : Extended :=
  match p.arith with
  | .binary64 =>
    if torqueScratch p t = infBits then .inf else .fin (magnitude (torqueScratch p t))
  | .exact =>
    match torqueMag t with
    | .inf => .inf
    | .fin v => .fin ((magnitude p.torqueGain).mul v)

/-- `min(x, 1)` of an extended value (R155). -/
def Extended.minOne : Extended → Frac
  | .inf => Frac.one
  | .fin v => v.minOne

/-- The compare count of TORQUE, none where the RANGE check fails: R155 with TORQUE_CLAMP = 1, R156 with
TORQUE_CLAMP = 0. With the clamp the count is at most PERIOD_PWM, so none cannot occur there. -/
def torqueCount (p : Params) (t : F64) : Option Word :=
  if p.torqueClamp then countFitting p (torqueDuty p t).minOne
  else
    match torqueDuty p t with
    | .inf => none
    | .fin v => countFitting p v

/-! ### The sign split -/

/-- The direction of `APPLYSIGN` (R170), which is also that of TORQUE (R153). -/
def signDirection (v : F64) : Direction := if lt0 v then .reverse else .forward

/-- The magnitude of `APPLYSIGN` (R170): the value negated where it is below zero, untouched otherwise. -/
def signMagnitude (v : F64) : F64 := if lt0 v then negF64 v else v

/-- `PINS(m, dir)`: the levels of pinA and pinB (R172). -/
def pins (p : Params) (m : Pair) (dir : Direction) : Bool × Bool :=
  match p.swap.get m, dir with
  | false, .forward => (true, false)
  | false, .reverse => (false, true)
  | true, .forward => (false, true)
  | true, .reverse => (true, false)

end Sys2Proof.Machine
end

