-- ==== Sys2Proof/Machine/Ops.lean ====
section
/-! DEFINITION. The named operations over the state: the register bus (spec/20_memory.md R76 to R85), the update event
(spec/43_timebase_operation.md R194, R195), the micro-operations and the sequencer's step (spec/30_encoding.md R114,
R116), the entry of a fault and the reset that is the one way out of it (spec/60_exceptions.md R232, R233), and the
acceptance of a command (R115). -/

namespace Sys2Proof.Machine

/-! ### The update event -/

/-- The update event: the six preload registers are copied to their active registers (R194). -/
def updateEvent (s : State) : State := { s with pscA := s.psc, arrA := s.arr, ccrA := s.ccr }

/-- Update generation (R195): the update event, PSC_CNT cleared, and CNT at the start of a period: 0, or the ARR_A just
copied where CR1.DIR = 1. -/
def updateGeneration (s : State) : State :=
  { updateEvent s with pscCnt := 0#16, cnt := if s.dir then s.arr else 0#32 }

/-! ### The register bus -/

/-- `CR1_MASK` (R31). -/
def cr1Mask : Word := 0x000003F1#32

/-- `CCMR_MASK` (R33). -/
def ccmrMask : Word := 0x00007878#32

/-- `CCER_MASK` (R36). -/
def ccerMask : Word := 0x00003333#32

/-- `MemRead` (R76): the preload values, never the active ones, and 0 for EGR. -/
def regRead (r : TimerReg) (s : State) : Word :=
  match r with
  | .cr1 => s.cr1
  | .egr => 0#32
  | .ccmr1 => s.ccmr1
  | .ccmr2 => s.ccmr2
  | .ccer => s.ccer
  | .cnt => s.cnt
  | .psc => s.psc.setWidth 32
  | .arr => s.arr
  | .ccr c => s.ccr.get c

/-- A write of ARR (R79): through to ARR_A where CR1.ARPE = 0 at the time of the write. -/
def writeArr (v : Word) (s : State) : State :=
  { s with arr := v, arrA := if s.arpe then s.arrA else v }

/-- A write of CCRc (R80): through to CCRc_A where OCcPE = 0 at the time of the write. -/
def writeCcr (c : Channel) (v : Word) (s : State) : State :=
  { s with ccr := s.ccr.set c v, ccrA := if s.ocPreload c then s.ccrA else s.ccrA.set c v }

/-- `MemWrite` (R77 to R82). -/
def regWrite (r : TimerReg) (v : Word) (s : State) : State :=
  match r with
  | .cr1 => { s with cr1 := v &&& cr1Mask }
  | .egr => if v.getLsbD 0 then updateGeneration s else s
  | .ccmr1 => { s with ccmr1 := v &&& ccmrMask }
  | .ccmr2 => { s with ccmr2 := v &&& ccmrMask }
  | .ccer => { s with ccer := v &&& ccerMask }
  | .cnt => { s with cnt := v }
  | .psc => { s with psc := v.setWidth 16 }
  | .arr => writeArr v s
  | .ccr c => writeCcr c v s

/-- The read-modify-write (R85). -/
def regModify (r : TimerReg) (clr set : Word) (s : State) : State :=
  regWrite r ((regRead r s &&& ~~~clr) ||| set) s

/-! ### Micro-operations -/

/-- `K(flag)` (R44, R114). -/
def setFlag (f : BookFlag) (s : State) : State :=
  match f with
  | .tbDone => { s with tbDone := true }
  | .cfgd c => { s with cfgd := s.cfgd.set c true }
  | .initDone => { s with initDone := true }

/-- `P(m, a, b)`: both latches of the pair in one step (R173). -/
def setPins (m : Pair) (a b : Bool) (s : State) : State :=
  { s with dirA := s.dirA.set m a, dirB := s.dirB.set m b }

/-- The effect of one micro-operation (R114). -/
def perform (op : MicroOp) (s : State) : State :=
  match op with
  | .w r v => regWrite r v s
  | .m r clr set => regModify r clr set s
  | .p m a b => setPins m a b s
  | .s m d => { s with dutyPrint := s.dutyPrint.set m d }
  | .z dir mag => { s with resDir := dir, resMag := mag }
  | .x _ => s
  | .k f => setFlag f s

/-- The effects of a list of micro-operations, in list order (R86, R118). -/
def performAll : List MicroOp → State → State
  | [], s => s
  | op :: rest, s => performAll rest (perform op s)

/-- The run's trace with one performed micro-operation more (R239). -/
def traced (op : MicroOp) (s : State) : State :=
  { s with env := { s.env with trace := op :: s.env.trace } }

/-- The sequencer's step (R116): remove the oldest micro-operation of Q and perform it. With Q empty the sequencer has
no step; the model lets a move of an agent that has none change nothing. Assumption log 6. -/
def sequencerStep (s : State) : State :=
  match s.q with
  | [] => s
  | op :: rest => traced op (perform op { s with q := rest })

/-! ### The fault latch -/

/-- The causes of a precondition fault (R221). -/
inductive Cause where
  | illegal | badChannel | operand | seq | notInit | nan | range
  deriving DecidableEq, Repr

/-- The 3-bit cause code (R221). -/
def Cause.code : Cause → BitVec 3
  | .illegal => 1#3
  | .badChannel => 2#3
  | .operand => 3#3
  | .seq => 4#3
  | .notInit => 5#3
  | .nan => 6#3
  | .range => 7#3

/-- Fault entry (R232): the latch records the cause and the control word of the offered command; nothing else
changes. -/
def raiseFault (c : Cause) (cw : Half) (s : State) : State :=
  { s with fault := true, cause := c.code, fcmd := cw }

/-- Reset (R250): every piece of state takes its value of R60. It is the only way out of the faulted state (R233); it
touches neither the parameters (R252) nor the environment. -/
def hardReset (s : State) : State := State.resetWith s.cfg s.env

/-! ### Acceptance -/

/-- Acceptance of a command (R115): where CMD_READY = 1, the first failing check raises its fault, and otherwise Q
takes the command's whole micro-operation list; nothing else changes. Where CMD_READY = 0 the word waits and nothing
changes (R100). Assumption logs 3, 7. -/
def accept (cw : Half) (plan : Except Cause (List MicroOp)) (s : State) : Host.Outcome State Fault Refusal :=
  if s.cmdReady then
    match plan with
    | .error c => .next (raiseFault c cw s)
    | .ok ops => .next { s with q := ops }
  else .next s

end Sys2Proof.Machine
end

