-- ==== Sys2Proof/Machine/DirectionController.lean ====
section
/-! DEFINITION. DirectionController: SIGN (spec/42_direction_controller.md). -/

namespace Sys2Proof.Machine

/-- The P micro-operation that drives pair `m` in a direction (R172, R173). -/
def drivePair (p : Params) (m : Pair) (dir : Direction) : MicroOp :=
  .p m (pins p m dir).1 (pins p m dir).2

/-- SIGN's micro-operation list (R171). -/
def signOps (p : Params) (m : Pair) (v : F64) : List MicroOp :=
  [ drivePair p m (signDirection v),
    .z (signDirection v) (signMagnitude v) ]

/-- SIGN's checks, in order, and list (R115 steps 3, 6, 7, R171). -/
def signPlan (ch : BitVec 4) (v : F64) (s : State) : Except Cause (List MicroOp) :=
  match pairOf ch with
  | none => .error .badChannel
  | some m =>
    if !s.initDone then .error .notInit
    else if isNaN v then .error .nan
    else .ok (signOps s.cfg m v)

/-- SIGN (R171). -/
def execSign (ch : BitVec 4) (v : F64) (s : State) : Host.Outcome State Fault Refusal :=
  accept (controlWord (.sign ch v)) (signPlan ch v s) s

end Sys2Proof.Machine
end

