-- ==== Sys2Proof/Machine/DutyCycleController.lean ====
section
/-! DEFINITION. DutyCycleController: DUTY and TORQUE (spec/41_duty_cycle_controller.md). -/

namespace Sys2Proof.Machine

/-- DUTY's micro-operation list (R152). -/
def dutyOps (p : Params) (m : Channel) (d : F64) : List MicroOp :=
  [ .w (.ccr (p.tch.get m)) (dutyCount p d) ]

/-- TORQUE's micro-operation list for the compare count `n` (R153). -/
def torqueOps (p : Params) (m : Pair) (t : F64) (n : Word) : List MicroOp :=
  [ drivePair p m (signDirection t),
    .s m (torqueScratch p t),
    .w (.ccr (p.tch.get m.channel)) n ]

/-- DUTY's checks, in order, and list (R115 steps 3, 6, 7, R152). -/
def dutyPlan (ch : BitVec 4) (d : F64) (s : State) : Except Cause (List MicroOp) :=
  match channelOf ch with
  | none => .error .badChannel
  | some m =>
    if !s.initDone then .error .notInit
    else if isNaN d then .error .nan
    else .ok (dutyOps s.cfg m d)

/-- TORQUE's checks, in order, and list (R115 steps 3, 6, 7, 8, R153). -/
def torquePlan (ch : BitVec 4) (t : F64) (s : State) : Except Cause (List MicroOp) :=
  match pairOf ch with
  | none => .error .badChannel
  | some m =>
    if !s.initDone then .error .notInit
    else if isNaN t then .error .nan
    else
      match torqueCount s.cfg t with
      | none => .error .range
      | some n => .ok (torqueOps s.cfg m t n)

/-- DUTY (R152). -/
def execDuty (ch : BitVec 4) (d : F64) (s : State) : Host.Outcome State Fault Refusal :=
  accept (controlWord (.duty ch d)) (dutyPlan ch d s) s

/-- TORQUE (R153). -/
def execTorque (ch : BitVec 4) (t : F64) (s : State) : Host.Outcome State Fault Refusal :=
  accept (controlWord (.torque ch t)) (torquePlan ch t s) s

end Sys2Proof.Machine
end

