-- ==== Sys2Proof/Machine/Programmer.lean ====
section
/-! DEFINITION. TimerChannelProgrammer: TIMEBASE, CHPWM, START, INITMOTOR (spec/40_timer_channel_programmer.md). -/

namespace Sys2Proof.Machine

/-- `MOTOR_MODE = Up` (R8). -/
def motorMode : BitVec 3 := 0b000#3

/-- `MOTOR_CKD = DIV1` (R8). -/
def motorCkd : BitVec 2 := 0b00#2

/-- `INIT_COMPARE = 0` (R8). -/
def initCompare : Word := 0#32

/-- TIMEBASE's micro-operation list (R130), from the CR1 bits of the mode and of the clock division. -/
def timebaseOps (ckd : BitVec 2) (bits : BitVec 3) (prescaler period : Word) : List MicroOp :=
  [ .m .cr1 0x00000370#32 ((bits.setWidth 32 <<< 4) ||| (ckd.setWidth 32 <<< 8)),
    .w .arr period,
    .w .psc prescaler,
    .w .egr 0x00000001#32,
    .k .tbDone ]

/-- CHPWM's micro-operation list (R131). -/
def chpwmOps (c : Channel) (compare : Word) : List MicroOp :=
  [ .m .ccer (0x1#32 <<< slotShift c) 0#32,
    .m (modeReg c) (0x7#32 <<< (byteShift c + 4)) (0x6#32 <<< (byteShift c + 4)),
    .m .ccer (0x2#32 <<< slotShift c) (0x1#32 <<< slotShift c),
    .w (.ccr c) compare,
    .m (modeReg c) 0#32 (0x1#32 <<< (byteShift c + 3)),
    .m .cr1 0#32 0x00000080#32,
    .k (.cfgd c) ]

/-- START's micro-operation list (R132). -/
def startOps : List MicroOp :=
  [ .m .cr1 0#32 0x00000001#32,
    .k .initDone ]

/-- INITMOTOR's micro-operation list, 41 entries (R133). -/
def initmotorOps (p : Params) : List MicroOp :=
  [ .x .clockEnable, .x .gpioConfigurePwmPins, .x .gpioConfigureDirPins,
    .p .p1 false false, .p .p2 false false, .p .p3 false false ]
  ++ timebaseOps motorCkd motorMode (p.prescalerPwm.setWidth 32) p.periodPwm
  ++ chpwmOps .c1 initCompare ++ chpwmOps .c2 initCompare
  ++ chpwmOps .c3 initCompare ++ chpwmOps .c4 initCompare
  ++ startOps

/-- TIMEBASE's checks and list (R115 step 4, R130). -/
def timebasePlan (ckd : BitVec 2) (mode : BitVec 3) (prescaler period : Word) : Except Cause (List MicroOp) :=
  match modeBits mode, ckdBits ckd with
  | some bits, some k => .ok (timebaseOps k bits prescaler period)
  | _, _ => .error .operand

/-- CHPWM's check and list (R115 step 3, R131). -/
def chpwmPlan (ch : BitVec 4) (compare : Word) : Except Cause (List MicroOp) :=
  match channelOf ch with
  | none => .error .badChannel
  | some c => .ok (chpwmOps c compare)

/-- START's check and list (R115 step 5, R132). -/
def startPlan (s : State) : Except Cause (List MicroOp) :=
  if s.tbDone && s.allConfigured then .ok startOps else .error .seq

/-- INITMOTOR's check and list (R115 step 5, R133). -/
def initmotorPlan (s : State) : Except Cause (List MicroOp) :=
  if s.initDone then .error .seq else .ok (initmotorOps s.cfg)

/-- INITMOTOR (R133). -/
def execInitmotor (s : State) : Host.Outcome State Fault Refusal :=
  accept (controlWord .initmotor) (initmotorPlan s) s

/-- TIMEBASE (R130). -/
def execTimebase (ckd : BitVec 2) (mode : BitVec 3) (prescaler period : Word) (s : State) :
    Host.Outcome State Fault Refusal :=
  accept (controlWord (.timebase ckd mode prescaler period)) (timebasePlan ckd mode prescaler period) s

/-- CHPWM (R131). -/
def execChpwm (ch : BitVec 4) (compare : Word) (s : State) : Host.Outcome State Fault Refusal :=
  accept (controlWord (.chpwm ch compare)) (chpwmPlan ch compare) s

/-- START (R132). -/
def execStart (s : State) : Host.Outcome State Fault Refusal :=
  accept (controlWord .start) (startPlan s) s

end Sys2Proof.Machine
end

