-- ==== Sys2Proof/Machine/Dispatch.lean ====
section
/-! DEFINITION. The meaning of each command: its acceptance (spec/30_encoding.md R115). -/

namespace Sys2Proof.Machine

def exec (i : Instr) (s : State) : Host.Outcome State Fault Refusal :=
  match i with
  | .initmotor => Sys2Proof.Machine.execInitmotor s
  | .timebase ckd mode prescaler period => Sys2Proof.Machine.execTimebase ckd mode prescaler period s
  | .chpwm ch compare => Sys2Proof.Machine.execChpwm ch compare s
  | .start => Sys2Proof.Machine.execStart s
  | .sign ch value => Sys2Proof.Machine.execSign ch value s
  | .duty ch value => Sys2Proof.Machine.execDuty ch value s
  | .torque ch value => Sys2Proof.Machine.execTorque ch value s

end Sys2Proof.Machine
end

