-- ==== Sys2Proof/Machine/Timebase.lean ====
section
/-! DEFINITION. The timebase: the tick (spec/43_timebase_operation.md R190 to R193, R196). -/

namespace Sys2Proof.Machine

/-- The counter step in mode Up (R192, R193). -/
def counterStep (s : State) : State :=
  if s.cnt = s.arrA then updateEvent { s with cnt := 0#32 }
  else { s with cnt := s.cnt + 1#32 }

/-- One tick of the timer clock (R190). With the counter enabled, a mode other than Up is refused (R196, U6), and so is
CKD = 11 (R42, U13), which no command writes; every other clock division has no effect (R201). Assumption logs 11, 13. -/
def tick (s : State) : Host.Outcome State Fault Refusal :=
  if !s.cen then .next s
  else if s.counterMode ≠ 0#3 then .refused .tickInUndefinedMode
  else if s.ckd = 3#2 then .refused .clockDivisionWithoutMeaning
  else if s.pscA ≤ s.pscCnt then .next (counterStep { s with pscCnt := 0#16 })
  else .next { s with pscCnt := s.pscCnt + 1#16 }

/-- `n` ticks with no move of another agent in between (R203). -/
def ticks : Nat → State → Host.Outcome State Fault Refusal
  | 0, s => .next s
  | n + 1, s =>
    match tick s with
    | .next t => ticks n t
    | .fault f => .fault f
    | .refused r => .refused r

end Sys2Proof.Machine
end

