-- ==== Sys2Proof/Machine/Agents.lean ====
section
/-! DEFINITION. The moves of the three agents (spec/00_scope.md R19): what the host, the sequencer and the timebase do in
one step, and where the next move comes from (R203). -/

namespace Sys2Proof.Machine

/-- What the observation port shows of an item (R62), or the refusal where a signal has no meaning (R54, U7). -/
def observed (item : Item) (s : State) : Except Refusal Seen :=
  let bit (b : Bool) : Except Refusal Seen := .ok (.bits 1 b.toNat)
  match item with
  | .cr1 => .ok (.bits 32 s.cr1.toNat)
  | .ccmr1 => .ok (.bits 32 s.ccmr1.toNat)
  | .ccmr2 => .ok (.bits 32 s.ccmr2.toNat)
  | .ccer => .ok (.bits 32 s.ccer.toNat)
  | .cnt => .ok (.bits 32 s.cnt.toNat)
  | .psc => .ok (.bits 16 s.psc.toNat)
  | .arr => .ok (.bits 32 s.arr.toNat)
  | .ccr c => .ok (.bits 32 (s.ccr.get c).toNat)
  | .pscA => .ok (.bits 16 s.pscA.toNat)
  | .pscCnt => .ok (.bits 16 s.pscCnt.toNat)
  | .arrA => .ok (.bits 32 s.arrA.toNat)
  | .ccrA c => .ok (.bits 32 (s.ccrA.get c).toNat)
  | .queue => .ok (.queue s.q)
  | .tbDone => bit s.tbDone
  | .cfgd c => bit (s.cfgd.get c)
  | .initDone => bit s.initDone
  | .fault => bit s.fault
  | .cause => .ok (.bits 3 s.cause.toNat)
  | .fcmd => .ok (.bits 16 s.fcmd.toNat)
  | .dirA m => bit (s.dirA.get m)
  | .dirB m => bit (s.dirB.get m)
  | .resDir => bit (decide (s.resDir = .reverse))
  | .resMag => .ok (.bits 64 s.resMag.toNat)
  | .dutyPrint m => .ok (.bits 64 (s.dutyPrint.get m).toNat)
  | .ocRef c =>
    match s.ocRef c with
    | some b => bit b
    | none => .error (.referenceWithoutMeaning c)
  | .pwmOut c =>
    match s.pwmOut c with
    | some b => bit b
    | none => .error (.referenceWithoutMeaning c)
  | .busy => bit s.busy
  | .cmdReady => bit s.cmdReady

/-- The state once the host has seen something: nothing of the core changes (R62, R76). -/
def withSeen (v : Seen) (s : State) : State := { s with env := { s.env with seen := v } }

/-- The host reads the item at the observation port (R62). -/
def observeItem (item : Item) (s : State) : Host.Outcome State Fault Refusal :=
  match observed item s with
  | .ok v => .next (withSeen v s)
  | .error r => .refused r

/-- The host reads the register at a byte offset (R76), or the refusal for an unassigned offset (R83). -/
def readOffset (offset : Nat) (s : State) : Host.Outcome State Fault Refusal :=
  match regAt offset with
  | some r => .next (withSeen (.bits 32 (regRead r s).toNat) s)
  | none => .refused (.unassignedOffset offset)

/-- The host offers a command word (R115): a legal one is decoded and executed, an illegal one faults ILLEGAL
(R110, R222). -/
def offerCommand (w : Cmd) (s : State) : Host.Outcome State Fault Refusal :=
  match decode w with
  | .ok i => exec i s
  | .error _ => accept (controlField w) (.error .illegal) s

/-- One move of one agent (R19). -/
def act (mv : Move) (s : State) : Host.Outcome State Fault Refusal :=
  match mv with
  | .offer w => offerCommand w s
  | .reset => .next (hardReset s)
  | .read offset => readOffset offset s
  | .observe item => observeItem item s
  | .sequencer => .next (sequencerStep s)
  | .tick => tick s

/-- The move that comes next, and the state once it has been taken from the environment: the head of the script, or
beyond the script a free choice (R19, R203, U18). -/
def nextMove (s : State) : Move × State :=
  match s.env.script with
  | mv :: rest => (mv, { s with env := { s.env with script := rest } })
  | [] => (Config.freeMove s.env.clock, { s with env := { s.env with clock := s.env.clock + 1 } })

/-- The state in which the host's next move is to offer the word `w`. -/
def offeringNext (w : Cmd) (s : State) : State :=
  { s with env := { s.env with script := .offer w :: s.env.script } }

end Sys2Proof.Machine
end

