-- ==== Sys2Proof/Machine/Step.lean ====
section
/-! DEFINITION. One step of the machine: one move of one agent (spec/00_scope.md R19). -/

namespace Sys2Proof.Machine

/-- One step: the environment's next move, taken. -/
def step (s : State) : Host.Outcome State Fault Refusal := act (nextMove s).1 (nextMove s).2

/-- The state in which the next step offers the command word of a table row: the machine fetches nothing (R58, R90),
so the word is put where the host's next move is. Assumption log 2. -/
def State.withFetchWord (s : State) (nbits w : Nat) : State :=
  offeringNext (BitVec.ofNat 80 (w % 2 ^ nbits)) s

end Sys2Proof.Machine
end

