-- ==== Sys2Proof/Machine/Assembly.lean ====
section
/-! DEFINITION. The assembler's side of spec/30_encoding.md: the pseudo-instruction SDUTY, the test-bench directives and
their fixed schedule (R113), and the textual form of a command (R112). None of it is hardware. -/

namespace Sys2Proof.Machine

/-- A line of a program of 95_test_vectors.md (R113). -/
inductive Directive where
  | cmd (i : Instr)
  | sduty (m : BitVec 4) (value : F64)
  | ticks (n : Nat)
  | reset
  deriving DecidableEq, Repr

/-- The number of sequencer steps of an accepted command (70_reset_and_hazards.md R270). -/
def sequencerSteps : Instr → Nat
  | .initmotor => 41
  | .timebase _ _ _ _ => 5
  | .chpwm _ _ => 7
  | .start => 2
  | .sign _ _ => 2
  | .duty _ _ => 1
  | .torque _ _ => 3

/-- The two commands that SDUTY expands to (R113). R113 defines the pseudo-instruction for m = 1 to 3 and a value that is
not a NaN. DESIGN CHOICE, safe: with any other operand the model expands it by the same two lines, and the SIGN of
them, accepted, raises the fault that R115 gives it. Assumption log 23. -/
def expandSduty (m : BitVec 4) (value : F64) : List Instr :=
  [ .sign m value, .duty m (signMagnitude value) ]

/-- The moves of one command on the fixed schedule of R113: the host offers it, and the sequencer runs until Q is
empty with no tick in between. After a faulting command the sequencer's moves change nothing. -/
def commandMoves (i : Instr) : List Move :=
  .offer (encode i) :: List.replicate (sequencerSteps i) .sequencer

/-- The moves of a line of a program (R113). -/
def Directive.moves : Directive → List Move
  | .cmd i => commandMoves i
  | .sduty m v => (expandSduty m v).flatMap commandMoves
  | .ticks n => List.replicate n .tick
  | .reset => [.reset]

/-- The moves of a program on the fixed schedule of R113. -/
def schedule (program : List Directive) : List Move := program.flatMap Directive.moves

/-- The name of a counter mode (R105). -/
def modeName (mode : BitVec 3) : Option String :=
  match mode.toNat with
  | 0 => some "UP"
  | 1 => some "DOWN"
  | 2 => some "CA1"
  | 3 => some "CA2"
  | 4 => some "CA3"
  | _ => none

/-- The name of a clock division (R106). -/
def ckdName (ckd : BitVec 2) : Option String :=
  match ckd.toNat with
  | 0 => some "DIV1"
  | 1 => some "DIV2"
  | 2 => some "DIV4"
  | _ => none

/-- The sixteen hexadecimal digits of a bit pattern (R112). -/
def hexDigits (v : F64) : String :=
  String.ofList ((List.range 16).map (fun i => Nat.digitChar ((v.toNat / 16 ^ (15 - i)) % 16)))

/-- The textual form of a command (R112), none for the TIMEBASE operands that have no name. A binary64 value is
written as its bit pattern. -/
def assembly : Instr → Option String
  | .initmotor => some "INITMOTOR"
  | .timebase ckd mode prescaler period =>
    match ckdName ckd, modeName mode with
    | some k, some m =>
      some ("TIMEBASE " ++ toString period.toNat ++ ", " ++ toString prescaler.toNat ++ ", " ++ k ++ ", " ++ m)
    | _, _ => none
  | .chpwm ch compare => some ("CHPWM " ++ toString ch.toNat ++ ", " ++ toString compare.toNat)
  | .start => some "START"
  | .sign ch value => some ("SIGN " ++ toString ch.toNat ++ ", 0x" ++ hexDigits value)
  | .duty ch value => some ("DUTY " ++ toString ch.toNat ++ ", 0x" ++ hexDigits value)
  | .torque ch value => some ("TORQUE " ++ toString ch.toNat ++ ", 0x" ++ hexDigits value)

end Sys2Proof.Machine
end

