-- ==== Sys2Proof/Safety.lean ====
section
/-! DEFINITION. The terms in which claims about the core are made: what a safe state is (spec/10_state.md R42, R61,
spec/42_direction_controller.md R174), the start of a PWM period (spec/43_timebase_operation.md R197), and the values of
binary64 data and their rounding as rationals (spec/00_scope.md R17, R18). -/

namespace Sys2Proof.Machine

/-! ### Runs of one agent -/

/-- `n` steps of the sequencer with no move of another agent in between. -/
def sequencerRun : Nat → State → State
  | 0, s => s
  | n + 1, s => sequencerRun n (sequencerStep s)

/-- The output of channel `c` is 1 in the state after `k` ticks. -/
def highAfter (c : Channel) (s : State) (k : Nat) : Bool :=
  match ticks k s with
  | .next t => decide (t.pwmOut c = some true)
  | _ => false

/-- The number of counts of the counter between two counter steps, `N = PSC_A + 1` (R197). -/
def State.ticksPerCount (s : State) : Nat := s.pscA.toNat + 1

/-- The length of the PWM period in ticks, `(PSC_A + 1) × (ARR_A + 1)` (R198). -/
def State.periodTicks (s : State) : Nat := s.ticksPerCount * (s.arrA.toNat + 1)

/-- The counter runs in mode Up and stands at the start of a period (R197). That the clock division is not 11 is the
model's inference from R42 and U13 (assumption log 13). -/
structure State.PeriodStart (s : State) : Prop where
  enabled : s.cen = true
  up : s.counterMode = 0#3
  division : s.ckd ≠ 3#2
  count : s.cnt = 0#32
  prescale : s.pscCnt = 0#16

/-! ### Reserved bits and the fault latch -/

/-- Every reserved bit of CR1, CCMR1, CCMR2 and CCER is 0 (R42). -/
structure State.ReservedZero (s : State) : Prop where
  cr1 : s.cr1 &&& ~~~cr1Mask = 0#32
  ccmr1 : s.ccmr1 &&& ~~~ccmrMask = 0#32
  ccmr2 : s.ccmr2 &&& ~~~ccmrMask = 0#32
  ccer : s.ccer &&& ~~~ccerMask = 0#32

/-- CAUSE and FCMD are 0 where FAULT = 0; CAUSE is a code of R221 and Q is empty where FAULT = 1 (R45, R232). -/
structure State.LatchConsistent (s : State) : Prop where
  clear : s.fault = false → s.cause = 0#3 ∧ s.fcmd = 0#16
  latched : s.fault = true → s.cause ≠ 0#3 ∧ s.q = []

/-! ### Illegal words -/

/-- A word that R110 calls illegal: (a) an undefined opcode, or (b) a non-zero field that the format reserves. -/
def illegalWord (w : Cmd) : Prop :=
  let op := (w.extractLsb' 76 4).toNat
  let ch := w.extractLsb' 72 4
  let aux := w.extractLsb' 64 8
  op = 0 ∨ 8 ≤ op
    ∨ ((op = 1 ∨ op = 4) ∧ (ch ≠ 0#4 ∨ aux ≠ 0#8 ∨ w.extractLsb' 0 64 ≠ 0#64))
    ∨ (op = 2 ∧ (ch ≠ 0#4 ∨ w.getLsbD 67 = true ∨ w.extractLsb' 70 2 ≠ 0#2))
    ∨ (op = 3 ∧ (aux ≠ 0#8 ∨ w.extractLsb' 32 32 ≠ 0#32))
    ∨ ((op = 5 ∨ op = 6 ∨ op = 7) ∧ aux ≠ 0#8)

/-! ### The direction pins -/

/-- No pair has both pins asserted (R174). -/
def State.PinsExclusive (s : State) : Prop :=
  ∀ m : Pair, ¬ (s.dirA.get m = true ∧ s.dirB.get m = true)

/-- No pair has both pins asserted, and no queued micro-operation asserts both (R173, R174). -/
structure State.NeverShorted (s : State) : Prop where
  pins : s.PinsExclusive
  queued : ∀ m : Pair, MicroOp.p m true true ∉ s.q

/-! ### The enables that no command clears (R137, R202) -/

/-- The micro-operation clears none of CEN, ARPE and OCcPE. -/
def keepsEnables : MicroOp → Bool
  | .w .cr1 _ => false
  | .w .ccmr1 _ => false
  | .w .ccmr2 _ => false
  | .m .cr1 clr _ => !clr.getLsbD 0 && !clr.getLsbD 7
  | .m .ccmr1 clr _ => !clr.getLsbD 3 && !clr.getLsbD 11
  | .m .ccmr2 clr _ => !clr.getLsbD 3 && !clr.getLsbD 11
  | _ => true

/-- Every queued micro-operation keeps the enables. -/
def State.QueueKeepsEnables (s : State) : Prop := ∀ op ∈ s.q, keepsEnables op = true

/-! ### The reachable-state invariants of R61, and what makes them inductive -/

/-- Channel `c` is configured: preload enabled, PWM mode 1, and the auto-reload preload enabled (R131). -/
def State.ChannelSet (s : State) (c : Channel) : Prop :=
  s.arpe = true ∧ s.ocPreload c = true ∧ s.ocMode c = 6#3

/-- The reachable-state invariants of R61 (a) to (g), and the legal values of CR1's fields (R42). -/
structure State.RegisterFacts (s : State) : Prop where
  prescale : s.pscCnt ≤ s.pscA
  running : s.cen = true → s.tbDone = true ∧ ∀ c : Channel, s.ChannelSet c ∧ s.cfgd.get c = true
  count : s.cen = true → s.counterMode = 0#3 → s.cnt ≤ s.arrA
  modes : ∀ c : Channel, (s.ocMode c = 0#3 ∨ s.ocMode c = 6#3) ∧ s.ccPolarity c = false
  pins : s.PinsExclusive
  started : s.initDone = true → s.cen = true
  arrShadow : s.arpe = false → s.arrA = s.arr
  ccrShadow : ∀ c : Channel, s.ocPreload c = false → s.ccrA.get c = s.ccr.get c
  modeLegal : ∃ mode : BitVec 3, modeBits mode = some s.counterMode
  ckdLegal : s.ckd ≠ 3#2

/-- What a queued micro-operation finds in the state it is performed in: it is of a form that some command's list has,
and the flags and the enable bit are set only when what they stand for holds. -/
def opReady (op : MicroOp) (s : State) : Prop :=
  match op with
  | .w .arr _ => True
  | .w .psc _ => True
  | .w (.ccr _) _ => True
  | .w .egr v => v = 1#32
  | .w _ _ => False
  | .m .cr1 clr set =>
    (∃ (mode : BitVec 3) (bits : BitVec 3) (ckd : BitVec 2), modeBits mode = some bits ∧ ckd ≠ 3#2 ∧
      clr = 0x370#32 ∧ set = ((bits.setWidth 32 <<< 4) ||| (ckd.setWidth 32 <<< 8)))
    ∨ (clr = 0#32 ∧ set = 0x80#32)
    ∨ (clr = 0#32 ∧ set = 1#32 ∧ s.tbDone = true ∧ s.allConfigured = true ∧ s.cnt ≤ s.arrA)
  | .m .ccer clr set =>
    ∃ c : Channel, (clr = 1#32 <<< slotShift c ∧ set = 0#32)
      ∨ (clr = 2#32 <<< slotShift c ∧ set = 1#32 <<< slotShift c)
  | .m r clr set =>
    ∃ c : Channel, r = modeReg c ∧
      ((clr = 7#32 <<< (byteShift c + 4) ∧ set = 6#32 <<< (byteShift c + 4))
        ∨ (clr = 0#32 ∧ set = 1#32 <<< (byteShift c + 3)))
  | .p _ a b => ¬ (a = true ∧ b = true) ∧ (a = false ∧ b = false → s.initDone = false)
  | .k .tbDone => True
  | .k (.cfgd c) => s.ChannelSet c
  | .k .initDone => s.cen = true
  | .s _ _ => True
  | .z _ _ => True
  | .x _ => True

/-- Each micro-operation of the list finds what it needs when the ones before it have been performed, and the counter
is within the active period at the end. -/
def Dischargeable : List MicroOp → State → Prop
  | [], s => s.cnt ≤ s.arrA
  | op :: rest, s => opReady op s ∧ Dischargeable rest (perform op s)

/-- The inductive invariant of the core: the facts of R61, with what keeps them. -/
structure State.Invariant (s : State) : Prop where
  facts : s.RegisterFacts
  counting : s.cen = true → s.cnt ≤ s.arrA
  configured : ∀ c : Channel, s.cfgd.get c = true → s.ChannelSet c
  queue : Dischargeable s.q s
  bound : s.q.length ≤ 41
  latch : s.LatchConsistent

/-! ### binary64 as rationals (R17, R18) -/

/-- The rational `num / 2 ^ exp`. -/
def fracRat (v : Frac) : ℚ := (v.num : ℚ) / 2 ^ v.exp

/-- `val(b)` of a finite `b`, with its sign, by the two formulas of R17. -/
def valRat (b : F64) : ℚ :=
  (if signBit b then -1 else 1) *
    (if expField b = 0 then (fracField b : ℚ) * (2 : ℚ) ^ (-1074 : ℤ)
     else ((2 : ℚ) ^ 52 + fracField b) * (2 : ℚ) ^ ((expField b : ℤ) - 1075))

/-- `rne(r)`: the integer nearest to `r`, the even one of two equally near (R18). -/
def nearestEven (r : ℚ) : ℤ :=
  if r - ⌊r⌋ < 1 / 2 then ⌊r⌋
  else if 1 / 2 < r - ⌊r⌋ then ⌊r⌋ + 1
  else if ⌊r⌋ % 2 = 0 then ⌊r⌋
  else ⌊r⌋ + 1

/-- The `k` of R18: `max(floor(log2 q), −1022)`. -/
def roundExponent (q : ℚ) : ℤ := max (Int.log 2 q) (-1022)

/-- `round64(q)` by the formula of R18, as an integer. -/
def round64Rule (q : ℚ) : ℤ :=
  if q = 0 then 0
  else min ((roundExponent q + 1022) * 2 ^ 52 + nearestEven (q * (2 : ℚ) ^ (52 - roundExponent q)))
    0x7FF0000000000000

/-- `CLAMP01(d)` by its three lines (R150), for a `d` that is not a NaN. -/
def clampRat (d : F64) : ℚ :=
  if lt0 d then 0 else if gt1 d then 1 else valRat d

end Sys2Proof.Machine
end

