-- ==== Sys2Proof/Certificates/Slice0/Obligations.lean ====
section
/-! DEFINITION. The statements for the provers. Each docstring names the rules of spec/ that the statement formalises. -/

open Sys2Proof Sys2Proof.Machine

/-! ### Reset, and where the next move comes from -/

/-- R60: the reset value of every piece of state, for every value of the parameters and in every environment, and the
signals that follow from them. -/
def Obligations.ResetGivesTheStatedValues : Prop :=
  ∀ (p : Params) (e : Env), let s := State.resetWith p e
    (s.cr1 = 0#32 ∧ s.ccmr1 = 0#32 ∧ s.ccmr2 = 0#32 ∧ s.ccer = 0#32 ∧ s.cnt = 0#32) ∧
    (s.psc = 0#16 ∧ s.pscA = 0#16 ∧ s.pscCnt = 0#16 ∧ s.arr = 0xFFFFFFFF#32 ∧ s.arrA = 0xFFFFFFFF#32) ∧
    (∀ c : Channel, s.ccr.get c = 0#32 ∧ s.ccrA.get c = 0#32 ∧ s.cfgd.get c = false) ∧
    (s.tbDone = false ∧ s.initDone = false ∧ s.fault = false ∧ s.cause = 0#3 ∧ s.fcmd = 0#16 ∧ s.q = []) ∧
    (∀ m : Pair, s.dirA.get m = false ∧ s.dirB.get m = false ∧ s.dutyPrint.get m = 0#64) ∧
    (s.resDir = .forward ∧ s.resMag = 0#64) ∧
    (∀ c : Channel, s.ocRef c = some false ∧ s.pwmOut c = some false) ∧
    (s.busy = false ∧ s.cmdReady = true)

/-- R250, R252: RESET is one step that may be taken in any state and puts every piece of state of the core at its reset
value; the parameters (R252) and the model's own environment (assumption log 14) stay. -/
def Obligations.ResetFromAnyState : Prop :=
  ∀ s : State, act .reset s = .next (State.resetWith s.cfg s.env)

/-- The model's choice (assumption log 1, after R19 and R203): a step is one move of one agent, the head of the script
where there is one, and otherwise a free choice; nothing else of the state is touched before the move acts. -/
def Obligations.StepIsOneMove : Prop :=
  (∀ (s : State) (mv : Move) (rest : List Move), s.env.script = mv :: rest →
    Sys2Proof.Machine.step s = act mv { s with env := { s.env with script := rest } }) ∧
  (∀ s : State, s.env.script = [] →
    Sys2Proof.Machine.step s =
      act (Config.freeMove s.env.clock) { s with env := { s.env with clock := s.env.clock + 1 } })

/-- A step runs the decoded instruction (R100, R115): where the host's next move offers a word that decodes to `i`, the
step is `exec i` in the state without that move in the script. -/
def Obligations.StepRunsOfferedCommand : Prop :=
  ∀ (s : State) (w : Cmd) (i : Instr) (rest : List Move),
    s.env.script = .offer w :: rest → decode w = .ok i →
      Sys2Proof.Machine.step s = exec i { s with env := { s.env with script := rest } }

/-- The word of a table row, placed by withFetchWord, is what the next step runs (assumption log 2). -/
def Obligations.FetchWordRunsNext : Prop :=
  ∀ (s : State) (w : Nat) (i : Instr), decodeTableWord 80 w = some i →
    Sys2Proof.Machine.step (s.withFetchWord 80 w) = exec i s

/-! ### Encoding -/

/-- A few command words of R112 and of the worked examples of R130 to R133, R152, R153 and R171, and what they decode
to. -/
def Obligations.SampleWordsDecode : Prop :=
  decode 0x10000000000000000000#80 = .ok .initmotor ∧
  decode 0x201200000053000003E7#80 = .ok (.timebase 1#2 2#3 83#32 999#32) ∧
  decode 0x320000000000000000FA#80 = .ok (.chpwm 2#4 250#32) ∧
  decode 0x40000000000000000000#80 = .ok .start ∧
  decode 0x5100C014000000000000#80 = .ok (.sign 1#4 0xC014000000000000#64) ∧
  decode 0x61003FE0000000000000#80 = .ok (.duty 1#4 0x3FE0000000000000#64) ∧
  decode 0x71003F847AE147AE147B#80 = .ok (.torque 1#4 0x3F847AE147AE147B#64)

/-- R100 to R109: the decoder reads back every operand of every instruction. -/
def Obligations.DecodeOfEncode : Prop :=
  ∀ i : Instr, decode (encode i) = .ok i

/-- R110, R111: every legal word is the encoding of the one instruction it decodes to; no bit of a legal word is
dropped. -/
def Obligations.EncodeOfDecode : Prop :=
  ∀ (w : Cmd) (i : Instr), decode w = .ok i → encode i = w

/-- R110, in the bits of the word: illegal are exactly the words with an undefined opcode or with a non-zero field that
the format reserves (`illegalWord`). -/
def Obligations.IllegalWordsAreThoseOfTheRule : Prop :=
  ∀ w : Cmd, (¬ ∃ i : Instr, decode w = .ok i) ↔ illegalWord w

/-- R41, R71: the channel lookup table, with the bits that each row of it names, and the register map, with what is read
at each register. -/
def Obligations.ChannelTableAndRegisterMap : Prop :=
  ([Channel.c1, .c2, .c3, .c4].map (fun c => (modeReg c, byteShift c, slotShift c)) =
    [(TimerReg.ccmr1, 0, 0), (.ccmr1, 8, 4), (.ccmr2, 0, 8), (.ccmr2, 8, 12)]) ∧
  ([TimerReg.cr1, .egr, .ccmr1, .ccmr2, .ccer, .cnt, .psc, .arr, .ccr .c1, .ccr .c2, .ccr .c3, .ccr .c4].map regOffset =
    [0x00, 0x14, 0x18, 0x1C, 0x20, 0x24, 0x28, 0x2C, 0x34, 0x38, 0x3C, 0x40]) ∧
  (∀ r : TimerReg, regAt (regOffset r) = some r) ∧
  (∀ (n : Nat) (r : TimerReg), regAt n = some r → regOffset r = n) ∧
  ∀ s : State,
    (s.ocMode .c1 = s.ccmr1.extractLsb' 4 3 ∧ s.ocMode .c2 = s.ccmr1.extractLsb' 12 3 ∧
      s.ocMode .c3 = s.ccmr2.extractLsb' 4 3 ∧ s.ocMode .c4 = s.ccmr2.extractLsb' 12 3) ∧
    (s.ocPreload .c1 = s.ccmr1.getLsbD 3 ∧ s.ocPreload .c2 = s.ccmr1.getLsbD 11 ∧
      s.ocPreload .c3 = s.ccmr2.getLsbD 3 ∧ s.ocPreload .c4 = s.ccmr2.getLsbD 11) ∧
    (s.ccEnable .c1 = s.ccer.getLsbD 0 ∧ s.ccEnable .c2 = s.ccer.getLsbD 4 ∧
      s.ccEnable .c3 = s.ccer.getLsbD 8 ∧ s.ccEnable .c4 = s.ccer.getLsbD 12) ∧
    (s.ccPolarity .c1 = s.ccer.getLsbD 1 ∧ s.ccPolarity .c2 = s.ccer.getLsbD 5 ∧
      s.ccPolarity .c3 = s.ccer.getLsbD 9 ∧ s.ccPolarity .c4 = s.ccer.getLsbD 13) ∧
    (regRead .cr1 s = s.cr1 ∧ regRead .egr s = 0#32 ∧ regRead .ccmr1 s = s.ccmr1 ∧ regRead .ccmr2 s = s.ccmr2 ∧
      regRead .ccer s = s.ccer ∧ regRead .cnt s = s.cnt ∧ (regRead .psc s).toNat = s.psc.toNat ∧
      regRead .arr s = s.arr ∧ regRead (.ccr .c1) s = s.ccr.a1 ∧ regRead (.ccr .c2) s = s.ccr.a2 ∧
      regRead (.ccr .c3) s = s.ccr.a3 ∧ regRead (.ccr .c4) s = s.ccr.a4)

/-! ### Acceptance: what a command's own step does -/

/-- R115 step 9, R130: a TIMEBASE whose mode and clock division are members of their enumerations puts its five
micro-operations into Q; performed without a tick in between they leave the state of R130 corner case (b). -/
def Obligations.TimebaseCompletes : Prop :=
  ∀ (s : State) (ckd : BitVec 2) (mode bits : BitVec 3) (prescaler period : Word),
    s.cmdReady = true → modeBits mode = some bits → ckd ≠ 3#2 →
    let ops : List MicroOp :=
      [ .m .cr1 0x370#32 ((bits.setWidth 32 <<< 4) ||| (ckd.setWidth 32 <<< 8)),
        .w .arr period, .w .psc prescaler, .w .egr 1#32, .k .tbDone ]
    exec (.timebase ckd mode prescaler period) s = .next { s with q := ops } ∧
    performAll ops s =
      { s with
        cr1 := ((s.cr1 &&& ~~~0x370#32) ||| ((bits.setWidth 32 <<< 4) ||| (ckd.setWidth 32 <<< 8))) &&& 0x3F1#32
        arr := period, arrA := period
        psc := prescaler.setWidth 16, pscA := prescaler.setWidth 16, pscCnt := 0#16
        ccrA := s.ccr
        cnt := if bits.getLsbD 0 then period else 0#32
        tbDone := true }

/-- R115 step 9, R131: a CHPWM on a channel 1 to 4 puts its seven micro-operations into Q. -/
def Obligations.ChpwmCompletes : Prop :=
  ∀ (s : State) (ch : BitVec 4) (c : Channel) (compare : Word),
    s.cmdReady = true → channelOf ch = some c →
    exec (.chpwm ch compare) s = .next { s with q :=
      [ .m .ccer (1#32 <<< slotShift c) 0#32,
        .m (modeReg c) (7#32 <<< (byteShift c + 4)) (6#32 <<< (byteShift c + 4)),
        .m .ccer (2#32 <<< slotShift c) (1#32 <<< slotShift c),
        .w (.ccr c) compare,
        .m (modeReg c) 0#32 (1#32 <<< (byteShift c + 3)),
        .m .cr1 0#32 0x80#32,
        .k (.cfgd c) ] }

/-- R131, R200: what CHPWM's micro-operations leave when no tick falls between them: the channel in PWM mode 1,
active-high, output on, with its compare value and both preloads enabled; the compare value active at once on a first
configuration and pending on a later one; and the other three channels untouched. R131 corner case (d), R258: between
its first and its third micro-operation the channel's output is 0. -/
def Obligations.ChpwmConfiguresOneChannel : Prop :=
  ∀ (s : State) (c : Channel) (compare : Word),
    let t := performAll (chpwmOps c compare) s
    (t.ocMode c = 6#3 ∧ t.ccEnable c = true ∧ t.ccPolarity c = false ∧ t.ocPreload c = true ∧ t.arpe = true) ∧
    (t.cfgd.get c = true ∧ t.ccr.get c = compare) ∧
    (t.ccrA.get c = if s.ocPreload c then s.ccrA.get c else compare) ∧
    (t.cen = s.cen ∧ t.counterMode = s.counterMode ∧ t.ckd = s.ckd) ∧
    (∀ d : Channel, d ≠ c →
      t.ocMode d = s.ocMode d ∧ t.ocPreload d = s.ocPreload d ∧ t.ccEnable d = s.ccEnable d ∧
      t.ccPolarity d = s.ccPolarity d ∧ t.ccr.get d = s.ccr.get d ∧ t.ccrA.get d = s.ccrA.get d ∧
      t.cfgd.get d = s.cfgd.get d) ∧
    t = { s with cr1 := t.cr1, ccmr1 := t.ccmr1, ccmr2 := t.ccmr2, ccer := t.ccer, ccr := t.ccr, ccrA := t.ccrA,
                 cfgd := t.cfgd } ∧
    ∀ n : Nat, n = 1 ∨ n = 2 → (performAll ((chpwmOps c compare).take n) s).pwmOut c = some false

/-- R115 step 9, R132: a START after TIMEBASE and all four CHPWM puts its two micro-operations into Q, and they set CEN
and INIT_DONE and nothing else. -/
def Obligations.StartCompletes : Prop :=
  ∀ s : State, s.cmdReady = true → s.tbDone = true → (∀ c : Channel, s.cfgd.get c = true) →
    exec .start s = .next { s with q := [.m .cr1 0#32 1#32, .k .initDone] } ∧
    performAll [.m .cr1 0#32 1#32, .k .initDone] s =
      { s with cr1 := (s.cr1 ||| 1#32) &&& 0x3F1#32, initDone := true }

/-- R115 step 9, R133: an INITMOTOR before initialisation puts its 41 micro-operations into Q: three external calls,
the all-off pass, TIMEBASE with the build constants, CHPWM 1 to 4 with compare 0, START. -/
def Obligations.InitmotorCompletes : Prop :=
  ∀ s : State, s.cmdReady = true → s.initDone = false →
    ∃ ops : List MicroOp,
      exec .initmotor s = .next { s with q := ops } ∧ ops.length = 41 ∧
      ops = [ .x .clockEnable, .x .gpioConfigurePwmPins, .x .gpioConfigureDirPins,
              .p .p1 false false, .p .p2 false false, .p .p3 false false,
              .m .cr1 0x370#32 0#32, .w .arr s.cfg.periodPwm, .w .psc (s.cfg.prescalerPwm.setWidth 32),
              .w .egr 1#32, .k .tbDone ]
            ++ chpwmOps .c1 0#32 ++ chpwmOps .c2 0#32 ++ chpwmOps .c3 0#32 ++ chpwmOps .c4 0#32
            ++ [.m .cr1 0#32 1#32, .k .initDone]

/-- R134: the state after INITMOTOR from reset, for every value of the parameters, no tick taken, and its outputs. -/
def Obligations.StateAfterInitmotor : Prop :=
  ∀ (p : Params) (e : Env), let s := State.resetWith p e
    let t := performAll (initmotorOps p) s
    t = { s with
          cr1 := 0x81#32, ccmr1 := 0x6868#32, ccmr2 := 0x6868#32, ccer := 0x1111#32
          arr := p.periodPwm, arrA := p.periodPwm, psc := p.prescalerPwm, pscA := p.prescalerPwm
          tbDone := true, cfgd := Quad.all true, initDone := true } ∧
    ∀ c : Channel, t.pwmOut c = some false

/-- R136: the component commands reach what INITMOTOR reaches, but for the all-off pass; the order of two CHPWM
commands on different channels does not matter. -/
def Obligations.ComponentCommandsInitialise : Prop :=
  (∀ (p : Params) (s : State), s.dirA = Triple.all false → s.dirB = Triple.all false →
    performAll (timebaseOps 0#2 0#3 (p.prescalerPwm.setWidth 32) p.periodPwm ++ chpwmOps .c1 0#32 ++
        chpwmOps .c2 0#32 ++ chpwmOps .c3 0#32 ++ chpwmOps .c4 0#32 ++ startOps) s =
      performAll (initmotorOps p) s) ∧
  (∀ (c d : Channel) (x y : Word) (s : State), c ≠ d →
    performAll (chpwmOps c x ++ chpwmOps d y) s = performAll (chpwmOps d y ++ chpwmOps c x) s)

/-- R115 step 9, R171: a SIGN on a pair 1 to 3 after initialisation, of a value that is not a NaN, puts P and Z into Q;
they drive the pair and set the result registers, and change nothing else. -/
def Obligations.SignCompletes : Prop :=
  ∀ (s : State) (ch : BitVec 4) (m : Pair) (v : F64),
    s.cmdReady = true → s.initDone = true → pairOf ch = some m → isNaN v = false →
    let dir : Direction := if lt0 v then .reverse else .forward
    let mag : F64 := if lt0 v then negF64 v else v
    let ops : List MicroOp := [.p m (pins s.cfg m dir).1 (pins s.cfg m dir).2, .z dir mag]
    exec (.sign ch v) s = .next { s with q := ops } ∧
    performAll ops s =
      { s with dirA := s.dirA.set m (pins s.cfg m dir).1, dirB := s.dirB.set m (pins s.cfg m dir).2
               resDir := dir, resMag := mag }

/-- R115 step 9, R152: a DUTY on a channel 1 to 4 after initialisation, of any value that is not a NaN, puts one write
of the compare register into Q; with the compare preload enabled it changes the pending value and nothing else. -/
def Obligations.DutyCompletes : Prop :=
  ∀ (s : State) (ch : BitVec 4) (m : Channel) (d : F64),
    s.cmdReady = true → s.initDone = true → channelOf ch = some m → isNaN d = false →
    let c := s.cfg.tch.get m
    let n : Word := dutyCount s.cfg d
    scale s.cfg (clamp01 d) = some n.toNat ∧
    exec (.duty ch d) s = .next { s with q := [.w (.ccr c) n] } ∧
    (s.ocPreload c = true →
      performAll [.w (.ccr c) n] s = { s with ccr := s.ccr.set c n }) ∧
    regRead (.ccr c) (performAll [.w (.ccr c) n] s) = n

/-- R115 step 9, R153: a TORQUE on a pair 1 to 3 after initialisation, of a value that is not a NaN and whose count
passes the range check, puts P, S and W into Q; they drive the pair, keep the absolute duty in the scratch and write the
pending compare value, and do not touch RES_DIR and RES_MAG. -/
def Obligations.TorqueCompletes : Prop :=
  ∀ (s : State) (ch : BitVec 4) (m : Pair) (t : F64) (n : Word),
    s.cmdReady = true → s.initDone = true → pairOf ch = some m → isNaN t = false →
    torqueCount s.cfg t = some n →
    let dir : Direction := if lt0 t then .reverse else .forward
    let c := s.cfg.tch.get m.channel
    let ops : List MicroOp :=
      [.p m (pins s.cfg m dir).1 (pins s.cfg m dir).2, .s m (torqueScratch s.cfg t), .w (.ccr c) n]
    exec (.torque ch t) s = .next { s with q := ops } ∧
    (s.ocPreload c = true →
      performAll ops s =
        { s with dirA := s.dirA.set m (pins s.cfg m dir).1, dirB := s.dirB.set m (pins s.cfg m dir).2
                 dutyPrint := s.dutyPrint.set m (torqueScratch s.cfg t), ccr := s.ccr.set c n })

/-- R100, R233: where CMD_READY = 0 (the core is busy or faulted) an offered word waits and nothing changes. -/
def Obligations.OfferedWordWaitsWhenNotReady : Prop :=
  ∀ (s : State) (w : Cmd), s.cmdReady = false → act (.offer w) s = .next s

/-- R115, R230, R232: acceptance changes nothing but Q, or the fault latch, whatever the command; every register, latch,
flag and parameter stays, and every register of the bus reads as before. -/
def Obligations.AcceptanceChangesOnlyQueueOrLatch : Prop :=
  ∀ (i : Instr) (s t : State), exec i s = .next t →
    ((t.q = s.q ∧ t.fault = true ∧ t.fcmd = (encode i).extractLsb' 64 16 ∧
        t = { s with fault := true, cause := t.cause, fcmd := t.fcmd }) ∨ t = { s with q := t.q }) ∧
    ∀ r : TimerReg, regRead r t = regRead r s

/-! ### Faults -/

/-- R222, R232: an illegal word, offered where CMD_READY = 1, enters the fault latch with cause 1 and its own control
word, and changes nothing else. -/
def Obligations.IllegalWordFaults : Prop :=
  ∀ (s : State) (w : Cmd), s.cmdReady = true → illegalWord w →
    act (.offer w) s = .next { s with fault := true, cause := 1#3, fcmd := w.extractLsb' 64 16 }

/-- R223, R229: a channel field outside the command's range faults with cause 2, whatever else is wrong with the
command and whatever the state. -/
def Obligations.BadChannelFaults : Prop :=
  ∀ (s : State) (ch : BitVec 4), s.cmdReady = true →
    (channelInRange ch = false →
      (∀ x : Word, exec (.chpwm ch x) s =
        .next { s with fault := true, cause := 2#3, fcmd := 3#4 ++ ch ++ 0#8 }) ∧
      (∀ d : F64, exec (.duty ch d) s =
        .next { s with fault := true, cause := 2#3, fcmd := 6#4 ++ ch ++ 0#8 })) ∧
    (pairInRange ch = false →
      (∀ v : F64, exec (.sign ch v) s =
        .next { s with fault := true, cause := 2#3, fcmd := 5#4 ++ ch ++ 0#8 }) ∧
      (∀ t : F64, exec (.torque ch t) s =
        .next { s with fault := true, cause := 2#3, fcmd := 7#4 ++ ch ++ 0#8 }))

/-- R224: a TIMEBASE whose mode is above 4 or whose clock division is 3 faults with cause 3; period and prescaler never
raise it. -/
def Obligations.BadTimebaseOperandFaults : Prop :=
  ∀ (s : State) (ckd : BitVec 2) (mode : BitVec 3), s.cmdReady = true →
    (4 < mode.toNat ∨ ckd = 3#2 → ∀ prescaler period : Word,
      exec (.timebase ckd mode prescaler period) s =
        .next { s with fault := true, cause := 3#3,
                       fcmd := 2#4 ++ 0#4 ++ (0#2 ++ ckd ++ 0#1 ++ mode) }) ∧
    (mode.toNat ≤ 4 → ckd ≠ 3#2 → ∀ prescaler period : Word,
      ∃ ops : List MicroOp, exec (.timebase ckd mode prescaler period) s = .next { s with q := ops })

/-- R225: INITMOTOR after initialisation, and START before TIMEBASE and all four CHPWM have completed, fault with
cause 4; START when they have completed does not, whether or not the counter was started before. -/
def Obligations.SequenceFaults : Prop :=
  ∀ s : State, s.cmdReady = true →
    (s.initDone = true → exec .initmotor s = .next { s with fault := true, cause := 4#3, fcmd := 0x1000#16 }) ∧
    ((s.tbDone = false ∨ ∃ c : Channel, s.cfgd.get c = false) →
      exec .start s = .next { s with fault := true, cause := 4#3, fcmd := 0x4000#16 }) ∧
    (s.tbDone = true → (∀ c : Channel, s.cfgd.get c = true) →
      ∃ ops : List MicroOp, exec .start s = .next { s with q := ops })

/-- R227: the NaN operands are those with the exponent field all ones and a fraction that is not zero, of either sign.
R226, R227, R229: with a channel in range, SIGN, DUTY and TORQUE fault with cause 5 before initialisation, even on
a NaN, and after it with cause 6 on a NaN. -/
def Obligations.ControlCommandFaults : Prop :=
  (∀ v : F64, isNaN v = true ↔ v.extractLsb' 52 11 = 2047#11 ∧ v.extractLsb' 0 52 ≠ 0#52) ∧
  ∀ (s : State) (ch : BitVec 4) (v : F64), s.cmdReady = true →
    let entry (op : BitVec 4) (code : BitVec 3) : State :=
      { s with fault := true, cause := code, fcmd := op ++ ch ++ 0#8 }
    (s.initDone = false →
      (pairInRange ch = true → exec (.sign ch v) s = .next (entry 5#4 5#3) ∧
        exec (.torque ch v) s = .next (entry 7#4 5#3)) ∧
      (channelInRange ch = true → exec (.duty ch v) s = .next (entry 6#4 5#3))) ∧
    (s.initDone = true → isNaN v = true →
      (pairInRange ch = true → exec (.sign ch v) s = .next (entry 5#4 6#3) ∧
        exec (.torque ch v) s = .next (entry 7#4 6#3)) ∧
      (channelInRange ch = true → exec (.duty ch v) s = .next (entry 6#4 6#3)))

/-- R156, R228: with TORQUE_CLAMP = 0 a TORQUE whose duty-equivalent value is infinite, or whose count is `overflow` or
at least 2^32, faults with cause 7 and changes nothing else; otherwise its count is written as it stands, above
PERIOD_PWM too. -/
def Obligations.TorqueRangeFaults : Prop :=
  ∀ (s : State) (ch : BitVec 4) (m : Pair) (t : F64), s.cmdReady = true → s.initDone = true → pairOf ch = some m →
    isNaN t = false → s.cfg.torqueClamp = false →
    ((torqueDuty s.cfg t = .inf ∨
        ∃ x : Frac, torqueDuty s.cfg t = .fin x ∧
          (scale s.cfg x = none ∨ ∃ n : Nat, scale s.cfg x = some n ∧ 2 ^ 32 ≤ n)) →
      exec (.torque ch t) s = .next { s with fault := true, cause := 7#3, fcmd := 7#4 ++ ch ++ 0#8 }) ∧
    ∀ (x : Frac) (n : Nat), torqueDuty s.cfg t = .fin x → scale s.cfg x = some n → n < 2 ^ 32 →
      ∃ a b : MicroOp, exec (.torque ch t) s =
        .next { s with q := [a, b, .w (.ccr (s.cfg.tch.get m.channel)) (BitVec.ofNat 32 n)] }

/-- R233: a faulted core accepts nothing and its latch keeps its values through every move but RESET, in every state
whose latch is consistent. -/
def Obligations.FaultIsSticky : Prop :=
  ∀ (s t : State) (mv : Move), s.LatchConsistent → s.fault = true → mv ≠ .reset → act mv s = .next t →
    t.fault = true ∧ t.cause = s.cause ∧ t.fcmd = s.fcmd ∧ t.q = []

/-- R233, R264: the timebase does not see the fault latch: a tick after a fault does what it would have done without
it. -/
def Obligations.FaultDoesNotStopTheTimebase : Prop :=
  ∀ (s t : State) (c : Cause) (cw : Half),
    (tick s = .next t → tick (raiseFault c cw s) = .next (raiseFault c cw t)) ∧
    ∀ r : Refusal, tick s = .refused r → tick (raiseFault c cw s) = .refused r

/-! ### The register bus -/

/-- R76, R77, R82: a write of CR1, CCMR1, CCMR2 or CCER stores the masked value and has no other effect, a write of CNT
stores the value and has no other effect; and what each register reads after a write to it, EGR as 0 always. -/
def Obligations.RegisterReadsWhatWasWritten : Prop :=
  ∀ (s : State) (v : Word),
    (regWrite .cr1 v s = { s with cr1 := v &&& 0x3F1#32 } ∧
      regWrite .ccmr1 v s = { s with ccmr1 := v &&& 0x7878#32 } ∧
      regWrite .ccmr2 v s = { s with ccmr2 := v &&& 0x7878#32 } ∧
      regWrite .ccer v s = { s with ccer := v &&& 0x3333#32 } ∧
      regWrite .cnt v s = { s with cnt := v }) ∧
    (regRead .psc (regWrite .psc v s) = v &&& 0xFFFF#32 ∧ regRead .arr (regWrite .arr v s) = v ∧
      (∀ c : Channel, regRead (.ccr c) (regWrite (.ccr c) v s) = v) ∧
      regRead .egr (regWrite .egr v s) = 0#32)

/-- R77 to R82, R87: a write of any register but EGR leaves every other register of the bus as it read before, and
touches no flag, latch, pin, scratch or queue. -/
def Obligations.RegisterWriteFrame : Prop :=
  ∀ (r r' : TimerReg) (v : Word) (s : State), r ≠ .egr → r' ≠ r →
    regRead r' (regWrite r v s) = regRead r' s ∧
    regWrite r v s =
      { s with
        cr1 := (regWrite r v s).cr1, ccmr1 := (regWrite r v s).ccmr1, ccmr2 := (regWrite r v s).ccmr2
        ccer := (regWrite r v s).ccer, cnt := (regWrite r v s).cnt, psc := (regWrite r v s).psc
        arr := (regWrite r v s).arr, arrA := (regWrite r v s).arrA
        ccr := (regWrite r v s).ccr, ccrA := (regWrite r v s).ccrA }

/-- R78: a write of PSC keeps the low 16 bits of the data and touches nothing else, the active prescaler and the
prescaler counter among it. -/
def Obligations.PrescalerWriteTruncates : Prop :=
  ∀ (s : State) (v : Word),
    regWrite .psc v s = { s with psc := BitVec.ofNat 16 (v.toNat % 2 ^ 16) }

/-- R79, R80: a write of ARR or of CCRc goes through to the active register where the preload is off, and waits where
it is on; the other channels' values stay. -/
def Obligations.PreloadDefersTheWrite : Prop :=
  ∀ (s : State) (v : Word),
    (s.arpe = true → regWrite .arr v s = { s with arr := v }) ∧
    (s.arpe = false → regWrite .arr v s = { s with arr := v, arrA := v }) ∧
    ∀ c : Channel,
      (s.ocPreload c = true → regWrite (.ccr c) v s = { s with ccr := s.ccr.set c v }) ∧
      (s.ocPreload c = false →
        regWrite (.ccr c) v s = { s with ccr := s.ccr.set c v, ccrA := s.ccrA.set c v })

/-- R81, R194, R195: a write of 1 to EGR makes the update event, clears PSC_CNT and puts CNT at the start of a period; a
write with bit 0 clear does nothing. -/
def Obligations.UpdateGeneration : Prop :=
  ∀ (s : State) (v : Word),
    (v.getLsbD 0 = false → regWrite .egr v s = s) ∧
    (v.getLsbD 0 = true → regWrite .egr v s =
      { s with pscA := s.psc, arrA := s.arr, ccrA := s.ccr, pscCnt := 0#16,
               cnt := if s.cr1.getLsbD 4 then s.arr else 0#32 })

/-- R76, R83, R91: a host read of a register's offset shows its value and changes nothing of the core; a read of an
unassigned offset is refused. R62: the observation port shows every item of R30 and every derived signal of R51 to R54,
and changes nothing of the core; a reference without meaning, and the output of an enabled channel that has one, are
refused (R54, U7). The place where the value is shown is the model's (assumption log 18). -/
def Obligations.HostReadHasNoSideEffect : Prop :=
  (∀ (s t : State) (item : Item), act (.observe item) s = .next t →
    ∃ v : Seen, t = { s with env := { s.env with seen := v } }) ∧
  ∀ (s : State) (offset : Nat),
    (∀ r : TimerReg, regOffset r = offset →
      act (.read offset) s =
        .next { s with env := { s.env with seen := .bits 32 (regRead r s).toNat } }) ∧
    ((∀ r : TimerReg, regOffset r ≠ offset) → act (.read offset) s = .refused (.unassignedOffset offset)) ∧
    let shows (item : Item) (v : Seen) : Prop :=
      act (.observe item) s = .next { s with env := { s.env with seen := v } }
    (shows .cr1 (.bits 32 s.cr1.toNat) ∧ shows .ccmr1 (.bits 32 s.ccmr1.toNat) ∧
      shows .ccmr2 (.bits 32 s.ccmr2.toNat) ∧ shows .ccer (.bits 32 s.ccer.toNat) ∧
      shows .cnt (.bits 32 s.cnt.toNat) ∧ shows .psc (.bits 16 s.psc.toNat) ∧ shows .arr (.bits 32 s.arr.toNat) ∧
      ∀ c : Channel, shows (.ccr c) (.bits 32 (s.ccr.get c).toNat)) ∧
    (shows .pscA (.bits 16 s.pscA.toNat) ∧ shows .pscCnt (.bits 16 s.pscCnt.toNat) ∧
      shows .arrA (.bits 32 s.arrA.toNat) ∧ ∀ c : Channel, shows (.ccrA c) (.bits 32 (s.ccrA.get c).toNat)) ∧
    (shows .queue (.queue s.q) ∧ shows .tbDone (.bits 1 s.tbDone.toNat) ∧
      (∀ c : Channel, shows (.cfgd c) (.bits 1 (s.cfgd.get c).toNat)) ∧ shows .initDone (.bits 1 s.initDone.toNat) ∧
      shows .fault (.bits 1 s.fault.toNat) ∧ shows .cause (.bits 3 s.cause.toNat) ∧
      shows .fcmd (.bits 16 s.fcmd.toNat)) ∧
    (∀ m : Pair, shows (.dirA m) (.bits 1 (s.dirA.get m).toNat) ∧ shows (.dirB m) (.bits 1 (s.dirB.get m).toNat) ∧
      shows (.dutyPrint m) (.bits 64 (s.dutyPrint.get m).toNat)) ∧
    (shows .resDir (.bits 1 (if s.resDir = .reverse then 1 else 0)) ∧ shows .resMag (.bits 64 s.resMag.toNat)) ∧
    (shows .busy (.bits 1 (if s.q = [] then 0 else 1)) ∧
      shows .cmdReady (.bits 1 (if s.q = [] ∧ s.fault = false then 1 else 0))) ∧
    ∀ c : Channel,
      (∀ b : Bool, s.ocRef c = some b → shows (.ocRef c) (.bits 1 b.toNat)) ∧
      (s.ocRef c = none → act (.observe (.ocRef c)) s = .refused (.referenceWithoutMeaning c)) ∧
      (∀ b : Bool, s.pwmOut c = some b → shows (.pwmOut c) (.bits 1 b.toNat)) ∧
      (s.pwmOut c = none → act (.observe (.pwmOut c)) s = .refused (.referenceWithoutMeaning c))

/-! ### The sequencer -/

/-- R114, R116: the sequencer removes and performs the oldest micro-operation, one a step; with Q empty it has no step
(the model's move then changes nothing, assumption log 6). The effects are those of the table of R114 and nothing else;
M is the read-modify-write of R85. That the trace records every kind of micro-operation, and not X alone (R114, R239),
is the model's choice (assumption log 14). -/
def Obligations.SequencerPerformsTheOldest : Prop :=
  (∀ (s : State) (op : MicroOp) (rest : List MicroOp), s.q = op :: rest →
    act .sequencer s = .next (traced op (perform op { s with q := rest }))) ∧
  (∀ s : State, s.q = [] → act .sequencer s = .next s) ∧
  (∀ (s : State) (m : Pair) (a b : Bool) (d : F64) (dir : Direction) (x : ExternalCall) (c : Channel),
    (∀ (r : TimerReg) (v clr set : Word), perform (.w r v) s = regWrite r v s ∧
      perform (.m r clr set) s = regWrite r ((regRead r s &&& ~~~clr) ||| set) s) ∧
    perform (.p m a b) s = { s with dirA := s.dirA.set m a, dirB := s.dirB.set m b } ∧
    perform (.s m d) s = { s with dutyPrint := s.dutyPrint.set m d } ∧
    perform (.z dir d) s = { s with resDir := dir, resMag := d } ∧
    perform (.x x) s = s ∧
    perform (.k .tbDone) s = { s with tbDone := true } ∧
    perform (.k (.cfgd c)) s = { s with cfgd := s.cfgd.set c true } ∧
    perform (.k .initDone) s = { s with initDone := true })

/-- R116, R118: the sequencer empties Q in as many steps as Q is long, and with no tick in between the state of the core
is then the fold of the list over the state; the trace, which by the model's choice records every kind of
micro-operation (assumption log 14), has gained the list. -/
def Obligations.SequencerDrainsTheQueue : Prop :=
  ∀ s : State,
    sequencerRun s.q.length s =
      { performAll s.q { s with q := [] } with
        env := { s.env with trace := s.q.reverse ++ s.env.trace } }

/-! ### The timebase -/

/-- R190, R192, R194, R196, R202: one tick. With the counter disabled nothing changes; in a mode other than Up it is
refused by name. That CKD = 11 is refused too, so that the lines of mode Up stand under the premise that CKD is another,
is the model's inference from R42 and U13 (assumption log 13), which R190, R192 and R201 do not say. In mode Up the prescaler counts, and the tick that finds it at PSC_A or above steps the counter, which
wraps at ARR_A with the update event in the same step. -/
def Obligations.TickFollowsTheRule : Prop :=
  ∀ s : State,
    (s.cen = false → act .tick s = .next s) ∧
    (s.cen = true → s.counterMode ≠ 0#3 → act .tick s = .refused .tickInUndefinedMode) ∧
    (s.cen = true → s.counterMode = 0#3 → s.ckd = 3#2 → act .tick s = .refused .clockDivisionWithoutMeaning) ∧
    (s.cen = true → s.counterMode = 0#3 → s.ckd ≠ 3#2 →
      (s.pscCnt.toNat < s.pscA.toNat → act .tick s = .next { s with pscCnt := s.pscCnt + 1#16 }) ∧
      (s.pscA.toNat ≤ s.pscCnt.toNat → s.cnt ≠ s.arrA →
        act .tick s = .next { s with pscCnt := 0#16, cnt := s.cnt + 1#32 }) ∧
      (s.pscA.toNat ≤ s.pscCnt.toNat → s.cnt = s.arrA →
        act .tick s =
          .next { s with pscCnt := 0#16, cnt := 0#32, pscA := s.psc, arrA := s.arr, ccrA := s.ccr }))

/-- R190: a tick writes PSC_CNT, CNT and the active registers and nothing else, and the active registers only by the
update event. -/
def Obligations.TickFrame : Prop :=
  ∀ s t : State, act .tick s = .next t →
    t = { s with pscCnt := t.pscCnt, cnt := t.cnt, pscA := t.pscA, arrA := t.arrA, ccrA := t.ccrA } ∧
    ((t.pscA = s.pscA ∧ t.arrA = s.arrA ∧ t.ccrA = s.ccrA) ∨
      (t.pscA = s.psc ∧ t.arrA = s.arr ∧ t.ccrA = s.ccr))

/-- R51, R54: the reference and the output; the reference has no meaning in the six other modes. -/
def Obligations.OutputFollowsTheCounter : Prop :=
  ∀ (s : State) (c : Channel),
    (s.ocMode c = 6#3 → s.ocRef c = some (decide (s.cnt.toNat < (s.ccrA.get c).toNat))) ∧
    (s.ocMode c = 0#3 → s.ocRef c = some false) ∧
    (s.ocMode c ≠ 6#3 → s.ocMode c ≠ 0#3 → s.ocRef c = none) ∧
    (s.ccEnable c = false → s.pwmOut c = some false) ∧
    (∀ r : Bool, s.ccEnable c = true → s.ocRef c = some r → s.pwmOut c = some (r != s.ccPolarity c))

/-- R197, R198: from the start of a period the counter holds each of 0, 1, …, ARR_A for PSC_A + 1 ticks, and the tick
that ends the period, (PSC_A + 1) × (ARR_A + 1) ticks after its start, wraps the counter and makes the update event;
nothing else changes inside the period. `PeriodStart` has CKD other than 11
as a premise (the model's inference, assumption log 13). -/
def Obligations.PwmPeriodLaw : Prop :=
  ∀ s : State, s.PeriodStart →
    (∀ k : Nat, k < s.periodTicks →
      ticks k s = .next { s with pscCnt := BitVec.ofNat 16 (k % s.ticksPerCount),
                                 cnt := BitVec.ofNat 32 (k / s.ticksPerCount) }) ∧
    ticks s.periodTicks s = .next { s with pscA := s.psc, arrA := s.arr, ccrA := s.ccr }

/-- R199: of the ticks of a period, the output of a channel in PWM mode 1, enabled and active-high, is 1 for
(PSC_A + 1) × min(CCRc_A, ARR_A + 1). `PeriodStart` has CKD other than 11
as a premise (the model's inference, assumption log 13). -/
def Obligations.DutyFraction : Prop :=
  ∀ (s : State) (c : Channel), s.PeriodStart → s.ocMode c = 6#3 → s.ccEnable c = true → s.ccPolarity c = false →
    ((List.range s.periodTicks).filter (highAfter c s)).length =
      s.ticksPerCount * min (s.ccrA.get c).toNat (s.arrA.toNat + 1)

/-- R200: with the compare preload enabled, a write of CCRc at any point of a period changes no channel's output for
the rest of the period, and shapes the period that follows; and the same for a write of ARR with ARPE = 1, which leaves
the length of the period it falls in as it was. `PeriodStart` has CKD other than 11
as a premise (the model's inference, assumption log 13). -/
def Obligations.PreloadSafety : Prop :=
  (∀ (s : State) (c : Channel) (v : Word) (k j : Nat), s.PeriodStart → s.ocPreload c = true →
    k < s.periodTicks →
    ∃ t : State, ticks k s = .next t ∧
      (k + j < s.periodTicks →
        ∃ u w : State, ticks j (regWrite (.ccr c) v t) = .next u ∧ ticks (k + j) s = .next w ∧
          u = regWrite (.ccr c) v w ∧ ∀ d : Channel, u.pwmOut d = w.pwmOut d) ∧
      (k + j = s.periodTicks →
        ∃ u : State, ticks j (regWrite (.ccr c) v t) = .next u ∧ u.PeriodStart ∧ u.ccrA.get c = v ∧
          ∀ d : Channel, d ≠ c → u.ccrA.get d = s.ccr.get d)) ∧
  ∀ (s : State) (v : Word) (k j : Nat), s.PeriodStart → s.arpe = true → k < s.periodTicks →
    ∃ t : State, ticks k s = .next t ∧
      (k + j < s.periodTicks →
        ∃ u w : State, ticks j (regWrite .arr v t) = .next u ∧ ticks (k + j) s = .next w ∧
          u = regWrite .arr v w ∧ ∀ d : Channel, u.pwmOut d = w.pwmOut d) ∧
      (k + j = s.periodTicks →
        ∃ u : State, ticks j (regWrite .arr v t) = .next u ∧ u.PeriodStart ∧ u.arrA = v ∧
          ∀ d : Channel, u.ccrA.get d = s.ccr.get d)

/-! ### The numbers -/

/-- R17, R18: the model's binary64 rounding is the rule's formula over the rationals, for every value the model can
form. -/
def Obligations.RoundingIsTheRule : Prop :=
  ∀ v : Frac, ((round64 v).toNat : ℤ) = round64Rule (fracRat v)

/-- R151: SCALE in exact mode is the floor of the exact product, and in binary64 mode the floor of the value of the
product rounded once, or `overflow`; of a value in [0, 1] it is at most PERIOD_PWM and never `overflow`, in both modes
(the last is the rule's own derived bound). -/
def Obligations.ScaleIsTheRule : Prop :=
  ∀ (p : Params) (v : Frac),
    (p.arith = .exact → ∃ n : Nat, scale p v = some n ∧ (n : ℤ) = ⌊fracRat v * (p.periodPwm.toNat : ℚ)⌋) ∧
    (p.arith = .binary64 →
      (scale p v = none ↔ round64Rule (fracRat v * (p.periodPwm.toNat : ℚ)) = 0x7FF0000000000000) ∧
      ∀ n : Nat, scale p v = some n →
        (n : ℤ) = ⌊valRat (BitVec.ofInt 64 (round64Rule (fracRat v * (p.periodPwm.toNat : ℚ))))⌋) ∧
    (fracRat v ≤ 1 → ∃ n : Nat, scale p v = some n ∧ n ≤ p.periodPwm.toNat)

/-- R150: the saturator's result is the rule's, is between 0 and 1 and is the value of a binary64; its test "above 1.0"
(R17) is that of the value, and true for +inf of the infinities; R152: the count of DUTY
is SCALE of it, and is at most PERIOD_PWM, in both arithmetic modes. -/
def Obligations.DutyCountIsScaledAndBounded : Prop :=
  ∀ (p : Params) (d : F64), isNaN d = false →
    ((isInf d = false → (gt1 d = true ↔ 1 < valRat d)) ∧
      (isInf d = true → (gt1 d = true ↔ d.getLsbD 63 = false))) ∧
    fracRat (clamp01 d) = clampRat d ∧ 0 ≤ clampRat d ∧ clampRat d ≤ 1 ∧
    (∃ b : F64, isNaN b = false ∧ isInf b = false ∧ valRat b = clampRat d) ∧
    scale p (clamp01 d) = some (dutyCount p d).toNat ∧ (dutyCount p d).toNat ≤ p.periodPwm.toNat

/-- R159 (a), (c): every duty above 1.0 writes the count of 1.0, which is PERIOD_PWM, and every duty below 0.0 that of
0.0, which is 0; both zeros write 0. -/
def Obligations.DutySaturates : Prop :=
  ∀ (p : Params) (d : F64),
    (gt1 d = true → dutyCount p d = p.periodPwm) ∧
    (lt0 d = true → dutyCount p d = 0#32) ∧
    dutyCount p 0x3FF0000000000000#64 = p.periodPwm ∧
    dutyCount p 0x0000000000000000#64 = 0#32 ∧ dutyCount p 0x8000000000000000#64 = 0#32

/-- R159 (d): the count of DUTY is monotonic in the duty, in both arithmetic modes. -/
def Obligations.DutyIsMonotonic : Prop :=
  ∀ (p : Params) (d e : F64), isNaN d = false → isNaN e = false → clampRat d ≤ clampRat e →
    (dutyCount p d).toNat ≤ (dutyCount p e).toNat

/-- R155: with TORQUE_CLAMP = 1 the count is SCALE of min(x, 1), at most PERIOD_PWM, and no torque but a NaN is out of
range. -/
def Obligations.ClampedTorqueNeverOutOfRange : Prop :=
  ∀ (p : Params) (t : F64), p.torqueClamp = true → isNaN t = false →
    ∃ (v : Frac) (n : Word), torqueCount p t = some n ∧ scale p v = some n.toNat ∧ n.toNat ≤ p.periodPwm.toNat ∧
      (torqueDuty p t = .inf → fracRat v = 1) ∧
      ∀ x : Frac, torqueDuty p t = .fin x → fracRat v = min (fracRat x) 1

/-- R154: the scratch value of a finite torque is the exact product of the gain and the magnitude, rounded once, in both
arithmetic modes; that of an infinite torque is +inf. The duty-equivalent value is that of the scratch in binary64 mode
and the exact product in exact mode, and `inf` where the rule says so. R153: a torque and its negation have the same
scratch value and the same count. -/
def Obligations.GainStageIsTheRule : Prop :=
  ∀ (p : Params) (t : F64), p.wellFormed = true → isNaN t = false →
    (isInf t = true → torqueScratch p t = 0x7FF0000000000000#64 ∧ torqueDuty p t = .inf) ∧
    (isInf t = false →
      ((torqueScratch p t).toNat : ℤ) = round64Rule (valRat p.torqueGain * |valRat t|) ∧
      (p.arith = .binary64 → torqueScratch p t = 0x7FF0000000000000#64 → torqueDuty p t = .inf) ∧
      (p.arith = .binary64 → torqueScratch p t ≠ 0x7FF0000000000000#64 →
        ∃ x : Frac, torqueDuty p t = .fin x ∧ fracRat x = valRat (torqueScratch p t)) ∧
      (p.arith = .exact →
        ∃ x : Frac, torqueDuty p t = .fin x ∧ fracRat x = valRat p.torqueGain * |valRat t|)) ∧
    torqueScratch p (negF64 t) = torqueScratch p t ∧ torqueCount p (negF64 t) = torqueCount p t

/-! ### The direction controller -/

/-- R172: the pin levels of a pair, and that exactly one of the two is 1. -/
def Obligations.PinTable : Prop :=
  ∀ (p : Params) (m : Pair),
    (p.swap.get m = false → pins p m .forward = (true, false) ∧ pins p m .reverse = (false, true)) ∧
    (p.swap.get m = true → pins p m .forward = (false, true) ∧ pins p m .reverse = (true, false)) ∧
    ∀ dir : Direction, ((pins p m dir).1 ^^ (pins p m dir).2) = true

/-- R17: the infinities and the zeros by their fields, and the test "below zero" by the value, true for −inf of the
infinities. R170, R178 (c): the sign split; the magnitude is the absolute value of the operand, never below zero; both zeros are
Forward with their pattern unchanged. -/
def Obligations.SignSplit : Prop :=
  ∀ v : F64, isNaN v = false →
    ((isInf v = true ↔ v.extractLsb' 52 11 = 2047#11) ∧
      (isZero v = true ↔ v.extractLsb' 52 11 = 0#11 ∧ v.extractLsb' 0 52 = 0#52)) ∧
    ((isInf v = false → (lt0 v = true ↔ valRat v < 0)) ∧
      (isInf v = true → (lt0 v = true ↔ v.getLsbD 63 = true))) ∧
    (lt0 v = true → signDirection v = .reverse ∧ signMagnitude v = negF64 v) ∧
    (lt0 v = false → signDirection v = .forward ∧ signMagnitude v = v) ∧
    lt0 (signMagnitude v) = false ∧ isNaN (signMagnitude v) = false ∧
    (isInf v = false → valRat (signMagnitude v) = |valRat v|) ∧
    (isZero v = true → signDirection v = .forward ∧ signMagnitude v = v) ∧
    (isInf v = true → signMagnitude v = 0x7FF0000000000000#64)

/-- R174: no step asserts both pins of a pair: from every state in which no pair is shorted and no queued
micro-operation shorts one, every step leads to such a state. -/
def Obligations.StepNeverShortsAPair : Prop :=
  ∀ s t : State, s.NeverShorted → Sys2Proof.Machine.step s = .next t → t.NeverShorted

/-- R44: TBDONE, CFGD and INIT_DONE stay set through every move but RESET, in every state. R175: once initialised, a
pair that is ForwardAsserted or ReverseAsserted stays one of the two through every move but RESET, in every state of the
invariant; the state reached is initialised and in the invariant, so that this holds until RESET. -/
def Obligations.PairNeverReturnsToBothOff : Prop :=
  (∀ (s t : State) (mv : Move), mv ≠ .reset → act mv s = .next t →
    (s.tbDone = true → t.tbDone = true) ∧ (s.initDone = true → t.initDone = true) ∧
    ∀ c : Channel, s.cfgd.get c = true → t.cfgd.get c = true) ∧
  ∀ (s t : State) (mv : Move) (m : Pair), s.Invariant → s.initDone = true → mv ≠ .reset →
    (s.pairState m = some .forwardAsserted ∨ s.pairState m = some .reverseAsserted) →
    act mv s = .next t →
    t.Invariant ∧ t.initDone = true ∧
      (t.pairState m = some .forwardAsserted ∨ t.pairState m = some .reverseAsserted)

/-! ### Invariants of the whole machine -/

/-- R42: reserved bits stay zero: from every state in which they are zero, every step leads to such a state. -/
def Obligations.StepKeepsReservedBitsZero : Prop :=
  ∀ s t : State, s.ReservedZero → Sys2Proof.Machine.step s = .next t → t.ReservedZero

/-- R137, R202: no move but RESET clears CEN, ARPE or a compare preload enable, and none queues a micro-operation that
would. -/
def Obligations.EnablesAreNeverCleared : Prop :=
  ∀ (s t : State) (mv : Move), s.QueueKeepsEnables → mv ≠ .reset → act mv s = .next t →
    t.QueueKeepsEnables ∧ (s.cen = true → t.cen = true) ∧ (s.arpe = true → t.arpe = true) ∧
    ∀ c : Channel, s.ocPreload c = true → t.ocPreload c = true

/-- R61: the inductive invariant that holds the reachable-state facts (a) to (g) is kept by every step, whichever agent
moves. -/
def Obligations.StepKeepsTheInvariant : Prop :=
  ∀ s t : State, s.Invariant → Sys2Proof.Machine.step s = .next t → t.Invariant

/-- R60, R61: the state after reset meets the invariants, for every parameter value and environment. -/
def Obligations.ResetMeetsTheInvariants : Prop :=
  ∀ (p : Params) (e : Env),
    (State.resetWith p e).Invariant ∧ (State.resetWith p e).ReservedZero ∧ (State.resetWith p e).NeverShorted ∧
      (State.resetWith p e).QueueKeepsEnables

/-! ### Operand tables -/

/-- R103, R105, R106: a raw channel field names the channel, or the pair, whose index it holds and no other; the bits
written to CR1[6:4] for each counter mode, none for 5 to 7; the clock division is written unchanged, and 3 is none. -/
def Obligations.OperandTablesAreTheRules : Prop :=
  (∀ (ch : BitVec 4) (c : Channel), channelOf ch = some c ↔ c.index = ch.toNat) ∧
  (∀ ch : BitVec 4, channelOf ch = none ↔ channelInRange ch = false) ∧
  (∀ (ch : BitVec 4) (m : Pair), pairOf ch = some m ↔ m.channel.index = ch.toNat) ∧
  (∀ ch : BitVec 4, pairOf ch = none ↔ pairInRange ch = false) ∧
  ([0#3, 1#3, 2#3, 3#3, 4#3, 5#3, 6#3, 7#3].map modeBits =
    [some 0b000#3, some 0b001#3, some 0b010#3, some 0b100#3, some 0b110#3, none, none, none]) ∧
  ([0#2, 1#2, 2#2, 3#2].map ckdBits = [some 0b00#2, some 0b01#2, some 0b10#2, none])
end

