-- ==== Sys2Proof/Laws/State.lean ====
section
/-! SUPPORT. One lemma per field per named update of the state, and per register field that an update leaves alone; and
what a bank reads after one of its entries is replaced. -/

namespace Sys2Proof

@[simp] theorem Quad.get_set_self {α : Type} (v : Quad α) (c : Channel) (x : α) : (v.set c x).get c = x := by
  cases c <;> rfl

theorem Quad.get_set_ne {α : Type} (v : Quad α) (c d : Channel) (x : α) (h : d ≠ c) :
    (v.set c x).get d = v.get d := by
  cases c <;> cases d <;> first | rfl | exact absurd rfl h

theorem Quad.get_set {α : Type} (v : Quad α) (c d : Channel) (x : α) :
    (v.set c x).get d = if d = c then x else v.get d := by
  cases c <;> cases d <;> rfl

@[simp] theorem Quad.get_all {α : Type} (c : Channel) (x : α) : (Quad.all x).get c = x := by
  cases c <;> rfl

@[simp] theorem Triple.get_set_self {α : Type} (v : Triple α) (m : Pair) (x : α) : (v.set m x).get m = x := by
  cases m <;> rfl

theorem Triple.get_set_ne {α : Type} (v : Triple α) (m k : Pair) (x : α) (h : k ≠ m) :
    (v.set m x).get k = v.get k := by
  cases m <;> cases k <;> first | rfl | exact absurd rfl h

theorem Triple.get_set {α : Type} (v : Triple α) (m k : Pair) (x : α) :
    (v.set m x).get k = if k = m then x else v.get k := by
  cases m <;> cases k <;> rfl

@[simp] theorem Triple.get_all {α : Type} (m : Pair) (x : α) : (Triple.all x).get m = x := by
  cases m <;> rfl

end Sys2Proof

namespace Sys2Proof.Machine

/-! ### updateEvent (R194) -/

@[simp] theorem updateEvent_cfg (s : State) : (updateEvent s).cfg = s.cfg := rfl
@[simp] theorem updateEvent_cr1 (s : State) : (updateEvent s).cr1 = s.cr1 := rfl
@[simp] theorem updateEvent_ccmr1 (s : State) : (updateEvent s).ccmr1 = s.ccmr1 := rfl
@[simp] theorem updateEvent_ccmr2 (s : State) : (updateEvent s).ccmr2 = s.ccmr2 := rfl
@[simp] theorem updateEvent_ccer (s : State) : (updateEvent s).ccer = s.ccer := rfl
@[simp] theorem updateEvent_cnt (s : State) : (updateEvent s).cnt = s.cnt := rfl
@[simp] theorem updateEvent_psc (s : State) : (updateEvent s).psc = s.psc := rfl
@[simp] theorem updateEvent_pscA (s : State) : (updateEvent s).pscA = s.psc := rfl
@[simp] theorem updateEvent_pscCnt (s : State) : (updateEvent s).pscCnt = s.pscCnt := rfl
@[simp] theorem updateEvent_arr (s : State) : (updateEvent s).arr = s.arr := rfl
@[simp] theorem updateEvent_arrA (s : State) : (updateEvent s).arrA = s.arr := rfl
@[simp] theorem updateEvent_ccr (s : State) : (updateEvent s).ccr = s.ccr := rfl
@[simp] theorem updateEvent_ccrA (s : State) : (updateEvent s).ccrA = s.ccr := rfl
@[simp] theorem updateEvent_q (s : State) : (updateEvent s).q = s.q := rfl
@[simp] theorem updateEvent_tbDone (s : State) : (updateEvent s).tbDone = s.tbDone := rfl
@[simp] theorem updateEvent_cfgd (s : State) : (updateEvent s).cfgd = s.cfgd := rfl
@[simp] theorem updateEvent_initDone (s : State) : (updateEvent s).initDone = s.initDone := rfl
@[simp] theorem updateEvent_fault (s : State) : (updateEvent s).fault = s.fault := rfl
@[simp] theorem updateEvent_cause (s : State) : (updateEvent s).cause = s.cause := rfl
@[simp] theorem updateEvent_fcmd (s : State) : (updateEvent s).fcmd = s.fcmd := rfl
@[simp] theorem updateEvent_dirA (s : State) : (updateEvent s).dirA = s.dirA := rfl
@[simp] theorem updateEvent_dirB (s : State) : (updateEvent s).dirB = s.dirB := rfl
@[simp] theorem updateEvent_resDir (s : State) : (updateEvent s).resDir = s.resDir := rfl
@[simp] theorem updateEvent_resMag (s : State) : (updateEvent s).resMag = s.resMag := rfl
@[simp] theorem updateEvent_dutyPrint (s : State) : (updateEvent s).dutyPrint = s.dutyPrint := rfl
@[simp] theorem updateEvent_env (s : State) : (updateEvent s).env = s.env := rfl
@[simp] theorem updateEvent_cen (s : State) : (updateEvent s).cen = s.cen := rfl
@[simp] theorem updateEvent_dir (s : State) : (updateEvent s).dir = s.dir := rfl
@[simp] theorem updateEvent_counterMode (s : State) : (updateEvent s).counterMode = s.counterMode := rfl
@[simp] theorem updateEvent_arpe (s : State) : (updateEvent s).arpe = s.arpe := rfl
@[simp] theorem updateEvent_ckd (s : State) : (updateEvent s).ckd = s.ckd := rfl
@[simp] theorem updateEvent_ocMode (s : State) (c : Channel) : (updateEvent s).ocMode c = s.ocMode c := rfl
@[simp] theorem updateEvent_ocPreload (s : State) (c : Channel) : (updateEvent s).ocPreload c = s.ocPreload c := rfl
@[simp] theorem updateEvent_ccEnable (s : State) (c : Channel) : (updateEvent s).ccEnable c = s.ccEnable c := rfl
@[simp] theorem updateEvent_ccPolarity (s : State) (c : Channel) : (updateEvent s).ccPolarity c = s.ccPolarity c := rfl

/-! ### updateGeneration (R195) -/

@[simp] theorem updateGeneration_cfg (s : State) : (updateGeneration s).cfg = s.cfg := rfl
@[simp] theorem updateGeneration_cr1 (s : State) : (updateGeneration s).cr1 = s.cr1 := rfl
@[simp] theorem updateGeneration_ccmr1 (s : State) : (updateGeneration s).ccmr1 = s.ccmr1 := rfl
@[simp] theorem updateGeneration_ccmr2 (s : State) : (updateGeneration s).ccmr2 = s.ccmr2 := rfl
@[simp] theorem updateGeneration_ccer (s : State) : (updateGeneration s).ccer = s.ccer := rfl
@[simp] theorem updateGeneration_cnt (s : State) : (updateGeneration s).cnt = if s.dir then s.arr else 0#32 := rfl
@[simp] theorem updateGeneration_psc (s : State) : (updateGeneration s).psc = s.psc := rfl
@[simp] theorem updateGeneration_pscA (s : State) : (updateGeneration s).pscA = s.psc := rfl
@[simp] theorem updateGeneration_pscCnt (s : State) : (updateGeneration s).pscCnt = 0#16 := rfl
@[simp] theorem updateGeneration_arr (s : State) : (updateGeneration s).arr = s.arr := rfl
@[simp] theorem updateGeneration_arrA (s : State) : (updateGeneration s).arrA = s.arr := rfl
@[simp] theorem updateGeneration_ccr (s : State) : (updateGeneration s).ccr = s.ccr := rfl
@[simp] theorem updateGeneration_ccrA (s : State) : (updateGeneration s).ccrA = s.ccr := rfl
@[simp] theorem updateGeneration_q (s : State) : (updateGeneration s).q = s.q := rfl
@[simp] theorem updateGeneration_tbDone (s : State) : (updateGeneration s).tbDone = s.tbDone := rfl
@[simp] theorem updateGeneration_cfgd (s : State) : (updateGeneration s).cfgd = s.cfgd := rfl
@[simp] theorem updateGeneration_initDone (s : State) : (updateGeneration s).initDone = s.initDone := rfl
@[simp] theorem updateGeneration_fault (s : State) : (updateGeneration s).fault = s.fault := rfl
@[simp] theorem updateGeneration_cause (s : State) : (updateGeneration s).cause = s.cause := rfl
@[simp] theorem updateGeneration_fcmd (s : State) : (updateGeneration s).fcmd = s.fcmd := rfl
@[simp] theorem updateGeneration_dirA (s : State) : (updateGeneration s).dirA = s.dirA := rfl
@[simp] theorem updateGeneration_dirB (s : State) : (updateGeneration s).dirB = s.dirB := rfl
@[simp] theorem updateGeneration_resDir (s : State) : (updateGeneration s).resDir = s.resDir := rfl
@[simp] theorem updateGeneration_resMag (s : State) : (updateGeneration s).resMag = s.resMag := rfl
@[simp] theorem updateGeneration_dutyPrint (s : State) : (updateGeneration s).dutyPrint = s.dutyPrint := rfl
@[simp] theorem updateGeneration_env (s : State) : (updateGeneration s).env = s.env := rfl
@[simp] theorem updateGeneration_cen (s : State) : (updateGeneration s).cen = s.cen := rfl
@[simp] theorem updateGeneration_dir (s : State) : (updateGeneration s).dir = s.dir := rfl
@[simp] theorem updateGeneration_counterMode (s : State) : (updateGeneration s).counterMode = s.counterMode := rfl
@[simp] theorem updateGeneration_arpe (s : State) : (updateGeneration s).arpe = s.arpe := rfl
@[simp] theorem updateGeneration_ckd (s : State) : (updateGeneration s).ckd = s.ckd := rfl
@[simp] theorem updateGeneration_ocMode (s : State) (c : Channel) : (updateGeneration s).ocMode c = s.ocMode c := rfl
@[simp] theorem updateGeneration_ocPreload (s : State) (c : Channel) : (updateGeneration s).ocPreload c = s.ocPreload c := rfl
@[simp] theorem updateGeneration_ccEnable (s : State) (c : Channel) : (updateGeneration s).ccEnable c = s.ccEnable c := rfl
@[simp] theorem updateGeneration_ccPolarity (s : State) (c : Channel) : (updateGeneration s).ccPolarity c = s.ccPolarity c := rfl

/-! ### writeArr (R79) -/

@[simp] theorem writeArr_cfg (v : Word) (s : State) : (writeArr v s).cfg = s.cfg := rfl
@[simp] theorem writeArr_cr1 (v : Word) (s : State) : (writeArr v s).cr1 = s.cr1 := rfl
@[simp] theorem writeArr_ccmr1 (v : Word) (s : State) : (writeArr v s).ccmr1 = s.ccmr1 := rfl
@[simp] theorem writeArr_ccmr2 (v : Word) (s : State) : (writeArr v s).ccmr2 = s.ccmr2 := rfl
@[simp] theorem writeArr_ccer (v : Word) (s : State) : (writeArr v s).ccer = s.ccer := rfl
@[simp] theorem writeArr_cnt (v : Word) (s : State) : (writeArr v s).cnt = s.cnt := rfl
@[simp] theorem writeArr_psc (v : Word) (s : State) : (writeArr v s).psc = s.psc := rfl
@[simp] theorem writeArr_pscA (v : Word) (s : State) : (writeArr v s).pscA = s.pscA := rfl
@[simp] theorem writeArr_pscCnt (v : Word) (s : State) : (writeArr v s).pscCnt = s.pscCnt := rfl
@[simp] theorem writeArr_arr (v : Word) (s : State) : (writeArr v s).arr = v := rfl
@[simp] theorem writeArr_arrA (v : Word) (s : State) : (writeArr v s).arrA = if s.arpe then s.arrA else v := rfl
@[simp] theorem writeArr_ccr (v : Word) (s : State) : (writeArr v s).ccr = s.ccr := rfl
@[simp] theorem writeArr_ccrA (v : Word) (s : State) : (writeArr v s).ccrA = s.ccrA := rfl
@[simp] theorem writeArr_q (v : Word) (s : State) : (writeArr v s).q = s.q := rfl
@[simp] theorem writeArr_tbDone (v : Word) (s : State) : (writeArr v s).tbDone = s.tbDone := rfl
@[simp] theorem writeArr_cfgd (v : Word) (s : State) : (writeArr v s).cfgd = s.cfgd := rfl
@[simp] theorem writeArr_initDone (v : Word) (s : State) : (writeArr v s).initDone = s.initDone := rfl
@[simp] theorem writeArr_fault (v : Word) (s : State) : (writeArr v s).fault = s.fault := rfl
@[simp] theorem writeArr_cause (v : Word) (s : State) : (writeArr v s).cause = s.cause := rfl
@[simp] theorem writeArr_fcmd (v : Word) (s : State) : (writeArr v s).fcmd = s.fcmd := rfl
@[simp] theorem writeArr_dirA (v : Word) (s : State) : (writeArr v s).dirA = s.dirA := rfl
@[simp] theorem writeArr_dirB (v : Word) (s : State) : (writeArr v s).dirB = s.dirB := rfl
@[simp] theorem writeArr_resDir (v : Word) (s : State) : (writeArr v s).resDir = s.resDir := rfl
@[simp] theorem writeArr_resMag (v : Word) (s : State) : (writeArr v s).resMag = s.resMag := rfl
@[simp] theorem writeArr_dutyPrint (v : Word) (s : State) : (writeArr v s).dutyPrint = s.dutyPrint := rfl
@[simp] theorem writeArr_env (v : Word) (s : State) : (writeArr v s).env = s.env := rfl
@[simp] theorem writeArr_cen (v : Word) (s : State) : (writeArr v s).cen = s.cen := rfl
@[simp] theorem writeArr_dir (v : Word) (s : State) : (writeArr v s).dir = s.dir := rfl
@[simp] theorem writeArr_counterMode (v : Word) (s : State) : (writeArr v s).counterMode = s.counterMode := rfl
@[simp] theorem writeArr_arpe (v : Word) (s : State) : (writeArr v s).arpe = s.arpe := rfl
@[simp] theorem writeArr_ckd (v : Word) (s : State) : (writeArr v s).ckd = s.ckd := rfl
@[simp] theorem writeArr_ocMode (v : Word) (s : State) (c : Channel) : (writeArr v s).ocMode c = s.ocMode c := rfl
@[simp] theorem writeArr_ocPreload (v : Word) (s : State) (c : Channel) : (writeArr v s).ocPreload c = s.ocPreload c := rfl
@[simp] theorem writeArr_ccEnable (v : Word) (s : State) (c : Channel) : (writeArr v s).ccEnable c = s.ccEnable c := rfl
@[simp] theorem writeArr_ccPolarity (v : Word) (s : State) (c : Channel) : (writeArr v s).ccPolarity c = s.ccPolarity c := rfl

/-! ### writeCcr (R80) -/

@[simp] theorem writeCcr_cfg (k : Channel) (v : Word) (s : State) : (writeCcr k v s).cfg = s.cfg := rfl
@[simp] theorem writeCcr_cr1 (k : Channel) (v : Word) (s : State) : (writeCcr k v s).cr1 = s.cr1 := rfl
@[simp] theorem writeCcr_ccmr1 (k : Channel) (v : Word) (s : State) : (writeCcr k v s).ccmr1 = s.ccmr1 := rfl
@[simp] theorem writeCcr_ccmr2 (k : Channel) (v : Word) (s : State) : (writeCcr k v s).ccmr2 = s.ccmr2 := rfl
@[simp] theorem writeCcr_ccer (k : Channel) (v : Word) (s : State) : (writeCcr k v s).ccer = s.ccer := rfl
@[simp] theorem writeCcr_cnt (k : Channel) (v : Word) (s : State) : (writeCcr k v s).cnt = s.cnt := rfl
@[simp] theorem writeCcr_psc (k : Channel) (v : Word) (s : State) : (writeCcr k v s).psc = s.psc := rfl
@[simp] theorem writeCcr_pscA (k : Channel) (v : Word) (s : State) : (writeCcr k v s).pscA = s.pscA := rfl
@[simp] theorem writeCcr_pscCnt (k : Channel) (v : Word) (s : State) : (writeCcr k v s).pscCnt = s.pscCnt := rfl
@[simp] theorem writeCcr_arr (k : Channel) (v : Word) (s : State) : (writeCcr k v s).arr = s.arr := rfl
@[simp] theorem writeCcr_arrA (k : Channel) (v : Word) (s : State) : (writeCcr k v s).arrA = s.arrA := rfl
@[simp] theorem writeCcr_ccr (k : Channel) (v : Word) (s : State) : (writeCcr k v s).ccr = s.ccr.set k v := rfl
@[simp] theorem writeCcr_ccrA (k : Channel) (v : Word) (s : State) : (writeCcr k v s).ccrA = if s.ocPreload k then s.ccrA else s.ccrA.set k v := rfl
@[simp] theorem writeCcr_q (k : Channel) (v : Word) (s : State) : (writeCcr k v s).q = s.q := rfl
@[simp] theorem writeCcr_tbDone (k : Channel) (v : Word) (s : State) : (writeCcr k v s).tbDone = s.tbDone := rfl
@[simp] theorem writeCcr_cfgd (k : Channel) (v : Word) (s : State) : (writeCcr k v s).cfgd = s.cfgd := rfl
@[simp] theorem writeCcr_initDone (k : Channel) (v : Word) (s : State) : (writeCcr k v s).initDone = s.initDone := rfl
@[simp] theorem writeCcr_fault (k : Channel) (v : Word) (s : State) : (writeCcr k v s).fault = s.fault := rfl
@[simp] theorem writeCcr_cause (k : Channel) (v : Word) (s : State) : (writeCcr k v s).cause = s.cause := rfl
@[simp] theorem writeCcr_fcmd (k : Channel) (v : Word) (s : State) : (writeCcr k v s).fcmd = s.fcmd := rfl
@[simp] theorem writeCcr_dirA (k : Channel) (v : Word) (s : State) : (writeCcr k v s).dirA = s.dirA := rfl
@[simp] theorem writeCcr_dirB (k : Channel) (v : Word) (s : State) : (writeCcr k v s).dirB = s.dirB := rfl
@[simp] theorem writeCcr_resDir (k : Channel) (v : Word) (s : State) : (writeCcr k v s).resDir = s.resDir := rfl
@[simp] theorem writeCcr_resMag (k : Channel) (v : Word) (s : State) : (writeCcr k v s).resMag = s.resMag := rfl
@[simp] theorem writeCcr_dutyPrint (k : Channel) (v : Word) (s : State) : (writeCcr k v s).dutyPrint = s.dutyPrint := rfl
@[simp] theorem writeCcr_env (k : Channel) (v : Word) (s : State) : (writeCcr k v s).env = s.env := rfl
@[simp] theorem writeCcr_cen (k : Channel) (v : Word) (s : State) : (writeCcr k v s).cen = s.cen := rfl
@[simp] theorem writeCcr_dir (k : Channel) (v : Word) (s : State) : (writeCcr k v s).dir = s.dir := rfl
@[simp] theorem writeCcr_counterMode (k : Channel) (v : Word) (s : State) : (writeCcr k v s).counterMode = s.counterMode := rfl
@[simp] theorem writeCcr_arpe (k : Channel) (v : Word) (s : State) : (writeCcr k v s).arpe = s.arpe := rfl
@[simp] theorem writeCcr_ckd (k : Channel) (v : Word) (s : State) : (writeCcr k v s).ckd = s.ckd := rfl
@[simp] theorem writeCcr_ocMode (k : Channel) (v : Word) (s : State) (c : Channel) : (writeCcr k v s).ocMode c = s.ocMode c := rfl
@[simp] theorem writeCcr_ocPreload (k : Channel) (v : Word) (s : State) (c : Channel) : (writeCcr k v s).ocPreload c = s.ocPreload c := rfl
@[simp] theorem writeCcr_ccEnable (k : Channel) (v : Word) (s : State) (c : Channel) : (writeCcr k v s).ccEnable c = s.ccEnable c := rfl
@[simp] theorem writeCcr_ccPolarity (k : Channel) (v : Word) (s : State) (c : Channel) : (writeCcr k v s).ccPolarity c = s.ccPolarity c := rfl

/-! ### setPins (R173) -/

@[simp] theorem setPins_cfg (m : Pair) (a b : Bool) (s : State) : (setPins m a b s).cfg = s.cfg := rfl
@[simp] theorem setPins_cr1 (m : Pair) (a b : Bool) (s : State) : (setPins m a b s).cr1 = s.cr1 := rfl
@[simp] theorem setPins_ccmr1 (m : Pair) (a b : Bool) (s : State) : (setPins m a b s).ccmr1 = s.ccmr1 := rfl
@[simp] theorem setPins_ccmr2 (m : Pair) (a b : Bool) (s : State) : (setPins m a b s).ccmr2 = s.ccmr2 := rfl
@[simp] theorem setPins_ccer (m : Pair) (a b : Bool) (s : State) : (setPins m a b s).ccer = s.ccer := rfl
@[simp] theorem setPins_cnt (m : Pair) (a b : Bool) (s : State) : (setPins m a b s).cnt = s.cnt := rfl
@[simp] theorem setPins_psc (m : Pair) (a b : Bool) (s : State) : (setPins m a b s).psc = s.psc := rfl
@[simp] theorem setPins_pscA (m : Pair) (a b : Bool) (s : State) : (setPins m a b s).pscA = s.pscA := rfl
@[simp] theorem setPins_pscCnt (m : Pair) (a b : Bool) (s : State) : (setPins m a b s).pscCnt = s.pscCnt := rfl
@[simp] theorem setPins_arr (m : Pair) (a b : Bool) (s : State) : (setPins m a b s).arr = s.arr := rfl
@[simp] theorem setPins_arrA (m : Pair) (a b : Bool) (s : State) : (setPins m a b s).arrA = s.arrA := rfl
@[simp] theorem setPins_ccr (m : Pair) (a b : Bool) (s : State) : (setPins m a b s).ccr = s.ccr := rfl
@[simp] theorem setPins_ccrA (m : Pair) (a b : Bool) (s : State) : (setPins m a b s).ccrA = s.ccrA := rfl
@[simp] theorem setPins_q (m : Pair) (a b : Bool) (s : State) : (setPins m a b s).q = s.q := rfl
@[simp] theorem setPins_tbDone (m : Pair) (a b : Bool) (s : State) : (setPins m a b s).tbDone = s.tbDone := rfl
@[simp] theorem setPins_cfgd (m : Pair) (a b : Bool) (s : State) : (setPins m a b s).cfgd = s.cfgd := rfl
@[simp] theorem setPins_initDone (m : Pair) (a b : Bool) (s : State) : (setPins m a b s).initDone = s.initDone := rfl
@[simp] theorem setPins_fault (m : Pair) (a b : Bool) (s : State) : (setPins m a b s).fault = s.fault := rfl
@[simp] theorem setPins_cause (m : Pair) (a b : Bool) (s : State) : (setPins m a b s).cause = s.cause := rfl
@[simp] theorem setPins_fcmd (m : Pair) (a b : Bool) (s : State) : (setPins m a b s).fcmd = s.fcmd := rfl
@[simp] theorem setPins_dirA (m : Pair) (a b : Bool) (s : State) : (setPins m a b s).dirA = s.dirA.set m a := rfl
@[simp] theorem setPins_dirB (m : Pair) (a b : Bool) (s : State) : (setPins m a b s).dirB = s.dirB.set m b := rfl
@[simp] theorem setPins_resDir (m : Pair) (a b : Bool) (s : State) : (setPins m a b s).resDir = s.resDir := rfl
@[simp] theorem setPins_resMag (m : Pair) (a b : Bool) (s : State) : (setPins m a b s).resMag = s.resMag := rfl
@[simp] theorem setPins_dutyPrint (m : Pair) (a b : Bool) (s : State) : (setPins m a b s).dutyPrint = s.dutyPrint := rfl
@[simp] theorem setPins_env (m : Pair) (a b : Bool) (s : State) : (setPins m a b s).env = s.env := rfl
@[simp] theorem setPins_cen (m : Pair) (a b : Bool) (s : State) : (setPins m a b s).cen = s.cen := rfl
@[simp] theorem setPins_dir (m : Pair) (a b : Bool) (s : State) : (setPins m a b s).dir = s.dir := rfl
@[simp] theorem setPins_counterMode (m : Pair) (a b : Bool) (s : State) : (setPins m a b s).counterMode = s.counterMode := rfl
@[simp] theorem setPins_arpe (m : Pair) (a b : Bool) (s : State) : (setPins m a b s).arpe = s.arpe := rfl
@[simp] theorem setPins_ckd (m : Pair) (a b : Bool) (s : State) : (setPins m a b s).ckd = s.ckd := rfl
@[simp] theorem setPins_ocMode (m : Pair) (a b : Bool) (s : State) (c : Channel) : (setPins m a b s).ocMode c = s.ocMode c := rfl
@[simp] theorem setPins_ocPreload (m : Pair) (a b : Bool) (s : State) (c : Channel) : (setPins m a b s).ocPreload c = s.ocPreload c := rfl
@[simp] theorem setPins_ccEnable (m : Pair) (a b : Bool) (s : State) (c : Channel) : (setPins m a b s).ccEnable c = s.ccEnable c := rfl
@[simp] theorem setPins_ccPolarity (m : Pair) (a b : Bool) (s : State) (c : Channel) : (setPins m a b s).ccPolarity c = s.ccPolarity c := rfl

/-! ### raiseFault (R232) -/

@[simp] theorem raiseFault_cfg (k : Cause) (w : Half) (s : State) : (raiseFault k w s).cfg = s.cfg := rfl
@[simp] theorem raiseFault_cr1 (k : Cause) (w : Half) (s : State) : (raiseFault k w s).cr1 = s.cr1 := rfl
@[simp] theorem raiseFault_ccmr1 (k : Cause) (w : Half) (s : State) : (raiseFault k w s).ccmr1 = s.ccmr1 := rfl
@[simp] theorem raiseFault_ccmr2 (k : Cause) (w : Half) (s : State) : (raiseFault k w s).ccmr2 = s.ccmr2 := rfl
@[simp] theorem raiseFault_ccer (k : Cause) (w : Half) (s : State) : (raiseFault k w s).ccer = s.ccer := rfl
@[simp] theorem raiseFault_cnt (k : Cause) (w : Half) (s : State) : (raiseFault k w s).cnt = s.cnt := rfl
@[simp] theorem raiseFault_psc (k : Cause) (w : Half) (s : State) : (raiseFault k w s).psc = s.psc := rfl
@[simp] theorem raiseFault_pscA (k : Cause) (w : Half) (s : State) : (raiseFault k w s).pscA = s.pscA := rfl
@[simp] theorem raiseFault_pscCnt (k : Cause) (w : Half) (s : State) : (raiseFault k w s).pscCnt = s.pscCnt := rfl
@[simp] theorem raiseFault_arr (k : Cause) (w : Half) (s : State) : (raiseFault k w s).arr = s.arr := rfl
@[simp] theorem raiseFault_arrA (k : Cause) (w : Half) (s : State) : (raiseFault k w s).arrA = s.arrA := rfl
@[simp] theorem raiseFault_ccr (k : Cause) (w : Half) (s : State) : (raiseFault k w s).ccr = s.ccr := rfl
@[simp] theorem raiseFault_ccrA (k : Cause) (w : Half) (s : State) : (raiseFault k w s).ccrA = s.ccrA := rfl
@[simp] theorem raiseFault_q (k : Cause) (w : Half) (s : State) : (raiseFault k w s).q = s.q := rfl
@[simp] theorem raiseFault_tbDone (k : Cause) (w : Half) (s : State) : (raiseFault k w s).tbDone = s.tbDone := rfl
@[simp] theorem raiseFault_cfgd (k : Cause) (w : Half) (s : State) : (raiseFault k w s).cfgd = s.cfgd := rfl
@[simp] theorem raiseFault_initDone (k : Cause) (w : Half) (s : State) : (raiseFault k w s).initDone = s.initDone := rfl
@[simp] theorem raiseFault_fault (k : Cause) (w : Half) (s : State) : (raiseFault k w s).fault = true := rfl
@[simp] theorem raiseFault_cause (k : Cause) (w : Half) (s : State) : (raiseFault k w s).cause = k.code := rfl
@[simp] theorem raiseFault_fcmd (k : Cause) (w : Half) (s : State) : (raiseFault k w s).fcmd = w := rfl
@[simp] theorem raiseFault_dirA (k : Cause) (w : Half) (s : State) : (raiseFault k w s).dirA = s.dirA := rfl
@[simp] theorem raiseFault_dirB (k : Cause) (w : Half) (s : State) : (raiseFault k w s).dirB = s.dirB := rfl
@[simp] theorem raiseFault_resDir (k : Cause) (w : Half) (s : State) : (raiseFault k w s).resDir = s.resDir := rfl
@[simp] theorem raiseFault_resMag (k : Cause) (w : Half) (s : State) : (raiseFault k w s).resMag = s.resMag := rfl
@[simp] theorem raiseFault_dutyPrint (k : Cause) (w : Half) (s : State) : (raiseFault k w s).dutyPrint = s.dutyPrint := rfl
@[simp] theorem raiseFault_env (k : Cause) (w : Half) (s : State) : (raiseFault k w s).env = s.env := rfl
@[simp] theorem raiseFault_cen (k : Cause) (w : Half) (s : State) : (raiseFault k w s).cen = s.cen := rfl
@[simp] theorem raiseFault_dir (k : Cause) (w : Half) (s : State) : (raiseFault k w s).dir = s.dir := rfl
@[simp] theorem raiseFault_counterMode (k : Cause) (w : Half) (s : State) : (raiseFault k w s).counterMode = s.counterMode := rfl
@[simp] theorem raiseFault_arpe (k : Cause) (w : Half) (s : State) : (raiseFault k w s).arpe = s.arpe := rfl
@[simp] theorem raiseFault_ckd (k : Cause) (w : Half) (s : State) : (raiseFault k w s).ckd = s.ckd := rfl
@[simp] theorem raiseFault_ocMode (k : Cause) (w : Half) (s : State) (c : Channel) : (raiseFault k w s).ocMode c = s.ocMode c := rfl
@[simp] theorem raiseFault_ocPreload (k : Cause) (w : Half) (s : State) (c : Channel) : (raiseFault k w s).ocPreload c = s.ocPreload c := rfl
@[simp] theorem raiseFault_ccEnable (k : Cause) (w : Half) (s : State) (c : Channel) : (raiseFault k w s).ccEnable c = s.ccEnable c := rfl
@[simp] theorem raiseFault_ccPolarity (k : Cause) (w : Half) (s : State) (c : Channel) : (raiseFault k w s).ccPolarity c = s.ccPolarity c := rfl

/-! ### traced (R239) -/

@[simp] theorem traced_cfg (op : MicroOp) (s : State) : (traced op s).cfg = s.cfg := rfl
@[simp] theorem traced_cr1 (op : MicroOp) (s : State) : (traced op s).cr1 = s.cr1 := rfl
@[simp] theorem traced_ccmr1 (op : MicroOp) (s : State) : (traced op s).ccmr1 = s.ccmr1 := rfl
@[simp] theorem traced_ccmr2 (op : MicroOp) (s : State) : (traced op s).ccmr2 = s.ccmr2 := rfl
@[simp] theorem traced_ccer (op : MicroOp) (s : State) : (traced op s).ccer = s.ccer := rfl
@[simp] theorem traced_cnt (op : MicroOp) (s : State) : (traced op s).cnt = s.cnt := rfl
@[simp] theorem traced_psc (op : MicroOp) (s : State) : (traced op s).psc = s.psc := rfl
@[simp] theorem traced_pscA (op : MicroOp) (s : State) : (traced op s).pscA = s.pscA := rfl
@[simp] theorem traced_pscCnt (op : MicroOp) (s : State) : (traced op s).pscCnt = s.pscCnt := rfl
@[simp] theorem traced_arr (op : MicroOp) (s : State) : (traced op s).arr = s.arr := rfl
@[simp] theorem traced_arrA (op : MicroOp) (s : State) : (traced op s).arrA = s.arrA := rfl
@[simp] theorem traced_ccr (op : MicroOp) (s : State) : (traced op s).ccr = s.ccr := rfl
@[simp] theorem traced_ccrA (op : MicroOp) (s : State) : (traced op s).ccrA = s.ccrA := rfl
@[simp] theorem traced_q (op : MicroOp) (s : State) : (traced op s).q = s.q := rfl
@[simp] theorem traced_tbDone (op : MicroOp) (s : State) : (traced op s).tbDone = s.tbDone := rfl
@[simp] theorem traced_cfgd (op : MicroOp) (s : State) : (traced op s).cfgd = s.cfgd := rfl
@[simp] theorem traced_initDone (op : MicroOp) (s : State) : (traced op s).initDone = s.initDone := rfl
@[simp] theorem traced_fault (op : MicroOp) (s : State) : (traced op s).fault = s.fault := rfl
@[simp] theorem traced_cause (op : MicroOp) (s : State) : (traced op s).cause = s.cause := rfl
@[simp] theorem traced_fcmd (op : MicroOp) (s : State) : (traced op s).fcmd = s.fcmd := rfl
@[simp] theorem traced_dirA (op : MicroOp) (s : State) : (traced op s).dirA = s.dirA := rfl
@[simp] theorem traced_dirB (op : MicroOp) (s : State) : (traced op s).dirB = s.dirB := rfl
@[simp] theorem traced_resDir (op : MicroOp) (s : State) : (traced op s).resDir = s.resDir := rfl
@[simp] theorem traced_resMag (op : MicroOp) (s : State) : (traced op s).resMag = s.resMag := rfl
@[simp] theorem traced_dutyPrint (op : MicroOp) (s : State) : (traced op s).dutyPrint = s.dutyPrint := rfl
@[simp] theorem traced_env (op : MicroOp) (s : State) : (traced op s).env = { s.env with trace := op :: s.env.trace } := rfl
@[simp] theorem traced_cen (op : MicroOp) (s : State) : (traced op s).cen = s.cen := rfl
@[simp] theorem traced_dir (op : MicroOp) (s : State) : (traced op s).dir = s.dir := rfl
@[simp] theorem traced_counterMode (op : MicroOp) (s : State) : (traced op s).counterMode = s.counterMode := rfl
@[simp] theorem traced_arpe (op : MicroOp) (s : State) : (traced op s).arpe = s.arpe := rfl
@[simp] theorem traced_ckd (op : MicroOp) (s : State) : (traced op s).ckd = s.ckd := rfl
@[simp] theorem traced_ocMode (op : MicroOp) (s : State) (c : Channel) : (traced op s).ocMode c = s.ocMode c := rfl
@[simp] theorem traced_ocPreload (op : MicroOp) (s : State) (c : Channel) : (traced op s).ocPreload c = s.ocPreload c := rfl
@[simp] theorem traced_ccEnable (op : MicroOp) (s : State) (c : Channel) : (traced op s).ccEnable c = s.ccEnable c := rfl
@[simp] theorem traced_ccPolarity (op : MicroOp) (s : State) (c : Channel) : (traced op s).ccPolarity c = s.ccPolarity c := rfl

/-! ### withSeen (R62, R76) -/

@[simp] theorem withSeen_cfg (v : Seen) (s : State) : (withSeen v s).cfg = s.cfg := rfl
@[simp] theorem withSeen_cr1 (v : Seen) (s : State) : (withSeen v s).cr1 = s.cr1 := rfl
@[simp] theorem withSeen_ccmr1 (v : Seen) (s : State) : (withSeen v s).ccmr1 = s.ccmr1 := rfl
@[simp] theorem withSeen_ccmr2 (v : Seen) (s : State) : (withSeen v s).ccmr2 = s.ccmr2 := rfl
@[simp] theorem withSeen_ccer (v : Seen) (s : State) : (withSeen v s).ccer = s.ccer := rfl
@[simp] theorem withSeen_cnt (v : Seen) (s : State) : (withSeen v s).cnt = s.cnt := rfl
@[simp] theorem withSeen_psc (v : Seen) (s : State) : (withSeen v s).psc = s.psc := rfl
@[simp] theorem withSeen_pscA (v : Seen) (s : State) : (withSeen v s).pscA = s.pscA := rfl
@[simp] theorem withSeen_pscCnt (v : Seen) (s : State) : (withSeen v s).pscCnt = s.pscCnt := rfl
@[simp] theorem withSeen_arr (v : Seen) (s : State) : (withSeen v s).arr = s.arr := rfl
@[simp] theorem withSeen_arrA (v : Seen) (s : State) : (withSeen v s).arrA = s.arrA := rfl
@[simp] theorem withSeen_ccr (v : Seen) (s : State) : (withSeen v s).ccr = s.ccr := rfl
@[simp] theorem withSeen_ccrA (v : Seen) (s : State) : (withSeen v s).ccrA = s.ccrA := rfl
@[simp] theorem withSeen_q (v : Seen) (s : State) : (withSeen v s).q = s.q := rfl
@[simp] theorem withSeen_tbDone (v : Seen) (s : State) : (withSeen v s).tbDone = s.tbDone := rfl
@[simp] theorem withSeen_cfgd (v : Seen) (s : State) : (withSeen v s).cfgd = s.cfgd := rfl
@[simp] theorem withSeen_initDone (v : Seen) (s : State) : (withSeen v s).initDone = s.initDone := rfl
@[simp] theorem withSeen_fault (v : Seen) (s : State) : (withSeen v s).fault = s.fault := rfl
@[simp] theorem withSeen_cause (v : Seen) (s : State) : (withSeen v s).cause = s.cause := rfl
@[simp] theorem withSeen_fcmd (v : Seen) (s : State) : (withSeen v s).fcmd = s.fcmd := rfl
@[simp] theorem withSeen_dirA (v : Seen) (s : State) : (withSeen v s).dirA = s.dirA := rfl
@[simp] theorem withSeen_dirB (v : Seen) (s : State) : (withSeen v s).dirB = s.dirB := rfl
@[simp] theorem withSeen_resDir (v : Seen) (s : State) : (withSeen v s).resDir = s.resDir := rfl
@[simp] theorem withSeen_resMag (v : Seen) (s : State) : (withSeen v s).resMag = s.resMag := rfl
@[simp] theorem withSeen_dutyPrint (v : Seen) (s : State) : (withSeen v s).dutyPrint = s.dutyPrint := rfl
@[simp] theorem withSeen_env (v : Seen) (s : State) : (withSeen v s).env = { s.env with seen := v } := rfl
@[simp] theorem withSeen_cen (v : Seen) (s : State) : (withSeen v s).cen = s.cen := rfl
@[simp] theorem withSeen_dir (v : Seen) (s : State) : (withSeen v s).dir = s.dir := rfl
@[simp] theorem withSeen_counterMode (v : Seen) (s : State) : (withSeen v s).counterMode = s.counterMode := rfl
@[simp] theorem withSeen_arpe (v : Seen) (s : State) : (withSeen v s).arpe = s.arpe := rfl
@[simp] theorem withSeen_ckd (v : Seen) (s : State) : (withSeen v s).ckd = s.ckd := rfl
@[simp] theorem withSeen_ocMode (v : Seen) (s : State) (c : Channel) : (withSeen v s).ocMode c = s.ocMode c := rfl
@[simp] theorem withSeen_ocPreload (v : Seen) (s : State) (c : Channel) : (withSeen v s).ocPreload c = s.ocPreload c := rfl
@[simp] theorem withSeen_ccEnable (v : Seen) (s : State) (c : Channel) : (withSeen v s).ccEnable c = s.ccEnable c := rfl
@[simp] theorem withSeen_ccPolarity (v : Seen) (s : State) (c : Channel) : (withSeen v s).ccPolarity c = s.ccPolarity c := rfl

/-! ### offeringNext (the environment's next move) -/

@[simp] theorem offeringNext_cfg (w : Cmd) (s : State) : (offeringNext w s).cfg = s.cfg := rfl
@[simp] theorem offeringNext_cr1 (w : Cmd) (s : State) : (offeringNext w s).cr1 = s.cr1 := rfl
@[simp] theorem offeringNext_ccmr1 (w : Cmd) (s : State) : (offeringNext w s).ccmr1 = s.ccmr1 := rfl
@[simp] theorem offeringNext_ccmr2 (w : Cmd) (s : State) : (offeringNext w s).ccmr2 = s.ccmr2 := rfl
@[simp] theorem offeringNext_ccer (w : Cmd) (s : State) : (offeringNext w s).ccer = s.ccer := rfl
@[simp] theorem offeringNext_cnt (w : Cmd) (s : State) : (offeringNext w s).cnt = s.cnt := rfl
@[simp] theorem offeringNext_psc (w : Cmd) (s : State) : (offeringNext w s).psc = s.psc := rfl
@[simp] theorem offeringNext_pscA (w : Cmd) (s : State) : (offeringNext w s).pscA = s.pscA := rfl
@[simp] theorem offeringNext_pscCnt (w : Cmd) (s : State) : (offeringNext w s).pscCnt = s.pscCnt := rfl
@[simp] theorem offeringNext_arr (w : Cmd) (s : State) : (offeringNext w s).arr = s.arr := rfl
@[simp] theorem offeringNext_arrA (w : Cmd) (s : State) : (offeringNext w s).arrA = s.arrA := rfl
@[simp] theorem offeringNext_ccr (w : Cmd) (s : State) : (offeringNext w s).ccr = s.ccr := rfl
@[simp] theorem offeringNext_ccrA (w : Cmd) (s : State) : (offeringNext w s).ccrA = s.ccrA := rfl
@[simp] theorem offeringNext_q (w : Cmd) (s : State) : (offeringNext w s).q = s.q := rfl
@[simp] theorem offeringNext_tbDone (w : Cmd) (s : State) : (offeringNext w s).tbDone = s.tbDone := rfl
@[simp] theorem offeringNext_cfgd (w : Cmd) (s : State) : (offeringNext w s).cfgd = s.cfgd := rfl
@[simp] theorem offeringNext_initDone (w : Cmd) (s : State) : (offeringNext w s).initDone = s.initDone := rfl
@[simp] theorem offeringNext_fault (w : Cmd) (s : State) : (offeringNext w s).fault = s.fault := rfl
@[simp] theorem offeringNext_cause (w : Cmd) (s : State) : (offeringNext w s).cause = s.cause := rfl
@[simp] theorem offeringNext_fcmd (w : Cmd) (s : State) : (offeringNext w s).fcmd = s.fcmd := rfl
@[simp] theorem offeringNext_dirA (w : Cmd) (s : State) : (offeringNext w s).dirA = s.dirA := rfl
@[simp] theorem offeringNext_dirB (w : Cmd) (s : State) : (offeringNext w s).dirB = s.dirB := rfl
@[simp] theorem offeringNext_resDir (w : Cmd) (s : State) : (offeringNext w s).resDir = s.resDir := rfl
@[simp] theorem offeringNext_resMag (w : Cmd) (s : State) : (offeringNext w s).resMag = s.resMag := rfl
@[simp] theorem offeringNext_dutyPrint (w : Cmd) (s : State) : (offeringNext w s).dutyPrint = s.dutyPrint := rfl
@[simp] theorem offeringNext_env (w : Cmd) (s : State) : (offeringNext w s).env = { s.env with script := .offer w :: s.env.script } := rfl
@[simp] theorem offeringNext_cen (w : Cmd) (s : State) : (offeringNext w s).cen = s.cen := rfl
@[simp] theorem offeringNext_dir (w : Cmd) (s : State) : (offeringNext w s).dir = s.dir := rfl
@[simp] theorem offeringNext_counterMode (w : Cmd) (s : State) : (offeringNext w s).counterMode = s.counterMode := rfl
@[simp] theorem offeringNext_arpe (w : Cmd) (s : State) : (offeringNext w s).arpe = s.arpe := rfl
@[simp] theorem offeringNext_ckd (w : Cmd) (s : State) : (offeringNext w s).ckd = s.ckd := rfl
@[simp] theorem offeringNext_ocMode (w : Cmd) (s : State) (c : Channel) : (offeringNext w s).ocMode c = s.ocMode c := rfl
@[simp] theorem offeringNext_ocPreload (w : Cmd) (s : State) (c : Channel) : (offeringNext w s).ocPreload c = s.ocPreload c := rfl
@[simp] theorem offeringNext_ccEnable (w : Cmd) (s : State) (c : Channel) : (offeringNext w s).ccEnable c = s.ccEnable c := rfl
@[simp] theorem offeringNext_ccPolarity (w : Cmd) (s : State) (c : Channel) : (offeringNext w s).ccPolarity c = s.ccPolarity c := rfl

end Sys2Proof.Machine
end

