-- ==== Sys2Proof/Laws/Ops.lean ====
section
/-! SUPPORT. For each shared operation, once, everything it can do; later proofs cite these and do not unfold it. -/

namespace Sys2Proof.Machine

/-! ### Acceptance -/

/-- The checks and the micro-operation list of a command in a state (R115). -/
def planOf (i : Instr) (s : State) : Except Cause (List MicroOp) :=
  match i with
  | .initmotor => initmotorPlan s
  | .timebase ckd mode prescaler period => timebasePlan ckd mode prescaler period
  | .chpwm ch compare => chpwmPlan ch compare
  | .start => startPlan s
  | .sign ch v => signPlan ch v s
  | .duty ch d => dutyPlan ch d s
  | .torque ch t => torquePlan ch t s

theorem exec_eq_accept (i : Instr) (s : State) : exec i s = accept (controlWord i) (planOf i s) s := by
  cases i <;> rfl

theorem cmdReady_iff (s : State) : s.cmdReady = true ↔ s.q = [] ∧ s.fault = false := by
  simp [State.cmdReady]

theorem accept_not_ready (cw : Half) (plan : Except Cause (List MicroOp)) (s : State) (h : s.cmdReady = false) :
    accept cw plan s = .next s := by
  simp [accept, h]

theorem accept_error (cw : Half) (c : Cause) (s : State) (h : s.cmdReady = true) :
    accept cw (.error c) s = .next (raiseFault c cw s) := by
  simp [accept, h]

theorem accept_ok (cw : Half) (ops : List MicroOp) (s : State) (h : s.cmdReady = true) :
    accept cw (.ok ops) s = .next { s with q := ops } := by
  simp [accept, h]

/-- Everything acceptance can do. -/
theorem accept_cases {cw : Half} {plan : Except Cause (List MicroOp)} {s t : State}
    (h : accept cw plan s = .next t) :
    (s.cmdReady = false ∧ t = s) ∨
    (s.cmdReady = true ∧ ∃ c, plan = .error c ∧ t = raiseFault c cw s) ∨
    (s.cmdReady = true ∧ ∃ ops, plan = .ok ops ∧ t = { s with q := ops }) := by
  cases hr : s.cmdReady with
  | false => rw [accept_not_ready cw plan s hr] at h; injection h with h; exact .inl ⟨rfl, h.symm⟩
  | true =>
    cases plan with
    | error c =>
      rw [accept_error cw c s hr] at h; injection h with h
      exact .inr (.inl ⟨rfl, c, rfl, h.symm⟩)
    | ok ops =>
      rw [accept_ok cw ops s hr] at h; injection h with h
      exact .inr (.inr ⟨rfl, ops, rfl, h.symm⟩)

/-- Acceptance always answers a next state. -/
theorem accept_answers (cw : Half) (plan : Except Cause (List MicroOp)) (s : State) :
    ∃ t, accept cw plan s = .next t := by
  unfold accept
  split
  · split <;> exact ⟨_, rfl⟩
  · exact ⟨_, rfl⟩

/-- The command lists that an accepted command can put into Q (R102). -/
theorem planOf_ok_cases {i : Instr} {s : State} {ops : List MicroOp} (h : planOf i s = .ok ops) :
    (i = .initmotor ∧ s.initDone = false ∧ ops = initmotorOps s.cfg) ∨
    (∃ ckd mode prescaler period bits, i = .timebase ckd mode prescaler period ∧ modeBits mode = some bits ∧
      ckd ≠ 3#2 ∧ ops = timebaseOps ckd bits prescaler period) ∨
    (∃ ch c compare, i = .chpwm ch compare ∧ channelOf ch = some c ∧ ops = chpwmOps c compare) ∨
    (i = .start ∧ s.tbDone = true ∧ s.allConfigured = true ∧ ops = startOps) ∨
    (∃ ch m v, i = .sign ch v ∧ pairOf ch = some m ∧ s.initDone = true ∧ isNaN v = false ∧
      ops = signOps s.cfg m v) ∨
    (∃ ch m d, i = .duty ch d ∧ channelOf ch = some m ∧ s.initDone = true ∧ isNaN d = false ∧
      ops = dutyOps s.cfg m d) ∨
    (∃ ch m t n, i = .torque ch t ∧ pairOf ch = some m ∧ s.initDone = true ∧ isNaN t = false ∧
      torqueCount s.cfg t = some n ∧ ops = torqueOps s.cfg m t n) := by
  cases i with
  | initmotor =>
    cases hd : s.initDone with
    | false => simp [planOf, initmotorPlan, hd] at h; exact .inl ⟨rfl, rfl, h.symm⟩
    | true => simp [planOf, initmotorPlan, hd] at h
  | timebase ckd mode prescaler period =>
    refine .inr (.inl ?_)
    cases hm : modeBits mode with
    | none => simp [planOf, timebasePlan, hm] at h
    | some bits =>
      by_cases hk : ckd = 3#2
      · simp [planOf, timebasePlan, hm, ckdBits, hk] at h
      · simp [planOf, timebasePlan, hm, ckdBits, hk] at h
        exact ⟨ckd, mode, prescaler, period, bits, rfl, hm, hk, h.symm⟩
  | chpwm ch compare =>
    refine .inr (.inr (.inl ?_))
    cases hc : channelOf ch with
    | none => simp [planOf, chpwmPlan, hc] at h
    | some c => simp [planOf, chpwmPlan, hc] at h; exact ⟨ch, c, compare, rfl, hc, h.symm⟩
  | start =>
    refine .inr (.inr (.inr (.inl ?_)))
    cases ht : s.tbDone <;> cases ha : s.allConfigured <;> simp [planOf, startPlan, ht, ha] at h
    exact ⟨rfl, rfl, rfl, h.symm⟩
  | sign ch v =>
    refine .inr (.inr (.inr (.inr (.inl ?_))))
    cases hc : pairOf ch with
    | none => simp [planOf, signPlan, hc] at h
    | some m =>
      cases hd : s.initDone <;> cases hn : isNaN v <;> simp [planOf, signPlan, hc, hd, hn] at h
      exact ⟨ch, m, v, rfl, hc, rfl, hn, h.symm⟩
  | duty ch d =>
    refine .inr (.inr (.inr (.inr (.inr (.inl ?_)))))
    cases hc : channelOf ch with
    | none => simp [planOf, dutyPlan, hc] at h
    | some m =>
      cases hd : s.initDone <;> cases hn : isNaN d <;> simp [planOf, dutyPlan, hc, hd, hn] at h
      exact ⟨ch, m, d, rfl, hc, rfl, hn, h.symm⟩
  | torque ch t =>
    refine .inr (.inr (.inr (.inr (.inr (.inr ?_)))))
    cases hc : pairOf ch with
    | none => simp [planOf, torquePlan, hc] at h
    | some m =>
      cases hd : s.initDone <;> cases hn : isNaN t <;> cases hk : torqueCount s.cfg t <;>
        simp [planOf, torquePlan, hc, hd, hn, hk] at h
      rename_i n
      exact ⟨ch, m, t, n, rfl, hc, rfl, hn, hk, h.symm⟩

/-! ### The register bus and the micro-operations: what they never touch -/

theorem regWrite_outside (r : TimerReg) (v : Word) (s : State) :
    (regWrite r v s).cfg = s.cfg ∧ (regWrite r v s).q = s.q ∧ (regWrite r v s).env = s.env ∧
    (regWrite r v s).tbDone = s.tbDone ∧ (regWrite r v s).cfgd = s.cfgd ∧ (regWrite r v s).initDone = s.initDone ∧
    (regWrite r v s).fault = s.fault ∧ (regWrite r v s).cause = s.cause ∧ (regWrite r v s).fcmd = s.fcmd ∧
    (regWrite r v s).dirA = s.dirA ∧ (regWrite r v s).dirB = s.dirB ∧ (regWrite r v s).resDir = s.resDir ∧
    (regWrite r v s).resMag = s.resMag ∧ (regWrite r v s).dutyPrint = s.dutyPrint := by
  cases r <;> simp only [regWrite] <;> (try split) <;> simp

theorem perform_keeps (op : MicroOp) (s : State) :
    (perform op s).cfg = s.cfg ∧ (perform op s).q = s.q ∧ (perform op s).env = s.env ∧
    (perform op s).fault = s.fault ∧ (perform op s).cause = s.cause ∧ (perform op s).fcmd = s.fcmd := by
  cases op with
  | w r v => simp [perform, regWrite_outside]
  | m r clr set => simp [perform, regModify, regWrite_outside]
  | k f => cases f <;> simp [perform, setFlag]
  | p m a b => simp [perform]
  | s m d => simp [perform]
  | z d g => simp [perform]
  | x c => simp [perform]

@[simp] theorem perform_cfg (op : MicroOp) (s : State) : (perform op s).cfg = s.cfg := (perform_keeps op s).1
@[simp] theorem perform_q (op : MicroOp) (s : State) : (perform op s).q = s.q := (perform_keeps op s).2.1
@[simp] theorem perform_env (op : MicroOp) (s : State) : (perform op s).env = s.env := (perform_keeps op s).2.2.1
@[simp] theorem perform_fault (op : MicroOp) (s : State) : (perform op s).fault = s.fault := (perform_keeps op s).2.2.2.1
@[simp] theorem perform_cause (op : MicroOp) (s : State) : (perform op s).cause = s.cause :=
  (perform_keeps op s).2.2.2.2.1
@[simp] theorem perform_fcmd (op : MicroOp) (s : State) : (perform op s).fcmd = s.fcmd := (perform_keeps op s).2.2.2.2.2

theorem performAll_append (a b : List MicroOp) (s : State) :
    performAll (a ++ b) s = performAll b (performAll a s) := by
  induction a generalizing s with
  | nil => rfl
  | cons op rest ih => exact ih (perform op s)

/-! ### The agents -/

/-- Everything the sequencer's step can do. -/
theorem sequencerStep_cases (s : State) :
    (s.q = [] ∧ sequencerStep s = s) ∨
    ∃ op rest, s.q = op :: rest ∧ sequencerStep s = traced op (perform op { s with q := rest }) := by
  unfold sequencerStep
  split
  · exact .inl ⟨‹_›, rfl⟩
  · exact .inr ⟨_, _, ‹_›, rfl⟩

/-- Everything a tick can do. -/
theorem tick_cases {s t : State} (h : tick s = .next t) :
    (s.cen = false ∧ t = s) ∨
    (s.cen = true ∧ s.counterMode = 0#3 ∧ s.ckd ≠ 3#2 ∧
      ((s.pscCnt < s.pscA ∧ t = { s with pscCnt := s.pscCnt + 1#16 }) ∨
       (s.pscA ≤ s.pscCnt ∧ s.cnt ≠ s.arrA ∧ t = { s with pscCnt := 0#16, cnt := s.cnt + 1#32 }) ∨
       (s.pscA ≤ s.pscCnt ∧ s.cnt = s.arrA ∧ t = updateEvent { s with pscCnt := 0#16, cnt := 0#32 }))) := by
  unfold tick at h
  split at h
  · rename_i hc
    injection h with h
    exact .inl ⟨by simpa using hc, h.symm⟩
  · rename_i hc
    refine .inr ⟨by simpa using hc, ?_⟩
    split at h
    · cases h
    · rename_i hm
      refine ⟨by simpa using hm, ?_⟩
      split at h
      · cases h
      rename_i hk
      refine ⟨hk, ?_⟩
      split at h
      · rename_i hp
        injection h with h
        unfold counterStep at h
        split at h
        · exact .inr (.inr ⟨hp, ‹_›, h.symm⟩)
        · exact .inr (.inl ⟨hp, ‹_›, h.symm⟩)
      · rename_i hp
        injection h with h
        exact .inl ⟨by simpa using hp, h.symm⟩

/-- Everything a move can do. -/
theorem act_cases {mv : Move} {s t : State} (h : act mv s = .next t) :
    (∃ w cw plan, mv = .offer w ∧ accept cw plan s = .next t ∧
      ((∃ i, decode w = .ok i ∧ cw = controlWord i ∧ plan = planOf i s) ∨
       (cw = controlField w ∧ plan = .error .illegal))) ∨
    (mv = .reset ∧ t = hardReset s) ∨
    (∃ v, t = withSeen v s) ∨
    (mv = .sequencer ∧ t = sequencerStep s) ∨
    (mv = .tick ∧ tick s = .next t) := by
  cases mv with
  | offer w =>
    refine .inl ?_
    simp only [act, offerCommand] at h
    split at h
    · rename_i i hi
      rw [exec_eq_accept] at h
      exact ⟨w, _, _, rfl, h, .inl ⟨i, hi, rfl, rfl⟩⟩
    · exact ⟨w, _, _, rfl, h, .inr ⟨rfl, rfl⟩⟩
  | reset => injection h with h; exact .inr (.inl ⟨rfl, h.symm⟩)
  | read n =>
    simp only [act, readOffset] at h
    split at h
    · injection h with h; exact .inr (.inr (.inl ⟨_, h.symm⟩))
    · cases h
  | observe item =>
    simp only [act, observeItem] at h
    split at h
    · injection h with h; exact .inr (.inr (.inl ⟨_, h.symm⟩))
    · cases h
  | sequencer => injection h with h; exact .inr (.inr (.inr (.inl ⟨rfl, h.symm⟩)))
  | tick => exact .inr (.inr (.inr (.inr ⟨rfl, h⟩)))

/-- A step is a move in a state that differs from the given one in its environment only. -/
theorem step_cases {s t : State} (h : step s = .next t) :
    ∃ (mv : Move) (e : Env), act mv { s with env := e } = .next t := by
  unfold step nextMove at h
  split at h
  · exact ⟨_, _, h⟩
  · exact ⟨_, _, h⟩

end Sys2Proof.Machine
end

