-- ==== Sys2Proof/Laws/PerInstr.lean ====
section
/-! SUPPORT. Statements about every instruction, one lemma per constructor (spec/30_encoding.md R100, R102). -/

namespace Sys2Proof.Laws

/-- The opcode field of an instruction's command word is its opcode, which is one of 1 to 7 (R102). -/
def OpcodeOfWord.Statement (i : Instr) : Prop :=
  opField (encode i) = i.opcode ∧ 1 ≤ i.opcode.toNat ∧ i.opcode.toNat ≤ 7

/-- A bit of a command word, by the field it lies in (R100). -/
theorem commandWord_getLsbD (op ch : BitVec 4) (aux : BitVec 8) (opd : BitVec 64) (n : Nat) :
    (commandWord op ch aux opd).getLsbD n =
      if n < 64 then opd.getLsbD n
      else if n - 64 < 8 then aux.getLsbD (n - 64)
      else if n - 64 - 8 < 4 then ch.getLsbD (n - 64 - 8)
      else op.getLsbD (n - 64 - 8 - 4) := by
  show (op ++ ch ++ aux ++ opd : BitVec (4 + 4 + 8 + 64)).getLsbD n = _
  simp only [BitVec.getLsbD_append]

theorem opField_commandWord (op ch : BitVec 4) (aux : BitVec 8) (opd : BitVec 64) :
    opField (commandWord op ch aux opd) = op := by
  ext k hk
  simp only [opField, BitVec.getElem_extractLsb', commandWord_getLsbD]
  rw [if_neg (by omega), if_neg (by omega), if_neg (by omega), show 76 + k - 64 - 8 - 4 = k by omega]
  exact BitVec.getLsbD_eq_getElem hk

theorem chField_commandWord (op ch : BitVec 4) (aux : BitVec 8) (opd : BitVec 64) :
    chField (commandWord op ch aux opd) = ch := by
  ext k hk
  simp only [chField, BitVec.getElem_extractLsb', commandWord_getLsbD]
  rw [if_neg (by omega), if_neg (by omega), if_pos (by omega), show 72 + k - 64 - 8 = k by omega]
  exact BitVec.getLsbD_eq_getElem hk

theorem auxField_commandWord (op ch : BitVec 4) (aux : BitVec 8) (opd : BitVec 64) :
    auxField (commandWord op ch aux opd) = aux := by
  ext k hk
  simp only [auxField, BitVec.getElem_extractLsb', commandWord_getLsbD]
  rw [if_neg (by omega), if_pos (by omega), show 64 + k - 64 = k by omega]
  exact BitVec.getLsbD_eq_getElem hk

theorem opdField_commandWord (op ch : BitVec 4) (aux : BitVec 8) (opd : BitVec 64) :
    opdField (commandWord op ch aux opd) = opd := by
  ext k hk
  simp only [opdField, BitVec.getElem_extractLsb', commandWord_getLsbD]
  rw [if_pos (by omega), show 0 + k = k by omega]
  exact BitVec.getLsbD_eq_getElem hk

theorem OpcodeOfWord.initmotor : OpcodeOfWord.Statement .initmotor :=
  ⟨opField_commandWord _ _ _ _, by decide, by decide⟩

theorem OpcodeOfWord.timebase (ckd : BitVec 2) (mode : BitVec 3) (prescaler period : Word) :
    OpcodeOfWord.Statement (.timebase ckd mode prescaler period) :=
  ⟨opField_commandWord _ _ _ _, by show 1 ≤ (2#4).toNat; decide, by show (2#4).toNat ≤ 7; decide⟩

theorem OpcodeOfWord.chpwm (ch : BitVec 4) (compare : Word) : OpcodeOfWord.Statement (.chpwm ch compare) :=
  ⟨opField_commandWord _ _ _ _, by show 1 ≤ (3#4).toNat; decide, by show (3#4).toNat ≤ 7; decide⟩

theorem OpcodeOfWord.start : OpcodeOfWord.Statement .start :=
  ⟨opField_commandWord _ _ _ _, by decide, by decide⟩

theorem OpcodeOfWord.sign (ch : BitVec 4) (value : F64) : OpcodeOfWord.Statement (.sign ch value) :=
  ⟨opField_commandWord _ _ _ _, by show 1 ≤ (5#4).toNat; decide, by show (5#4).toNat ≤ 7; decide⟩

theorem OpcodeOfWord.duty (ch : BitVec 4) (value : F64) : OpcodeOfWord.Statement (.duty ch value) :=
  ⟨opField_commandWord _ _ _ _, by show 1 ≤ (6#4).toNat; decide, by show (6#4).toNat ≤ 7; decide⟩

theorem OpcodeOfWord.torque (ch : BitVec 4) (value : F64) : OpcodeOfWord.Statement (.torque ch value) :=
  ⟨opField_commandWord _ _ _ _, by show 1 ≤ (7#4).toNat; decide, by show (7#4).toNat ≤ 7; decide⟩

end Sys2Proof.Laws
end

