-- ==== Sys2Proof/Tests/Slice0.lean ====
section
/-! SUPPORT. Tests of the model, each on fixed values that stand in spec/ (the vector or rule is named), and one witness
for the hypotheses of each statement of Certificates/Slice0/Obligations.lean. -/

namespace Sys2Proof.Tests

open Sys2Proof Sys2Proof.Machine

/-! ### States -/

/-- The parameters of 95_test_vectors.md section 0. -/
def params : Params := Config.defaultParams

/-- After reset with those parameters. -/
def fresh : State := State.resetWith params Env.empty

/-- After INITMOTOR with no tick taken: the values of R134. -/
def ready : State :=
  { fresh with
    cr1 := 0x81#32, ccmr1 := 0x6868#32, ccmr2 := 0x6868#32, ccer := 0x1111#32
    arr := 1000#32, arrA := 1000#32, tbDone := true, cfgd := Quad.all true, initDone := true }

/-- The worked example of 43_timebase_operation.md: PSC_A = 1, ARR_A = 9, CCR1_A = 3, at the start of a period. -/
def running : State :=
  { ready with psc := 1#16, pscA := 1#16, arr := 9#32, arrA := 9#32, ccr := Quad.all 3#32, ccrA := Quad.all 3#32 }

/-- `running` with pair 1 Forward, pair 2 Reverse (SWAP = [0, 1, 1]) and a SIGN of the other direction queued. -/
def driving : State :=
  { running with
    dirA := ⟨true, true, false⟩
    q := [.p .p1 false true, .z .reverse 0x4014000000000000#64] }

/-- `driving` with the sequencer's step as the next move. -/
def poised : State := { driving with env := { driving.env with script := [.sequencer] } }

/-- A faulted core (program P4: `DUTY 5, 0.25`). -/
def faulted : State := { ready with fault := true, cause := 2#3, fcmd := 0x6500#16 }

/-- The counter enabled in mode Down. -/
def countingDown : State := { running with cr1 := 0x91#32 }

/-- The counter enabled in mode Up with CKD = 11. -/
def undivided : State := { running with cr1 := 0x381#32 }

/-- The state with the given moves in the script. -/
def scripted (moves : List Move) (s : State) : State := { s with env := { s.env with script := moves } }

/-- One item of a next state. -/
def shown {α : Type} (f : State → α) : Host.Outcome State Fault Refusal → Option α
  | .next t => some (f t)
  | _ => none

/-- The fault latch. -/
def latch (s : State) : Bool × BitVec 3 × Half := (s.fault, s.cause, s.fcmd)

/-- The instruction of a word, none where the word is illegal. -/
def decoded (w : Cmd) : Option Instr :=
  match decode w with
  | .ok i => some i
  | .error _ => none

/-! ### Well-formedness: each check refuses an ill-formed term -/

theorem test_wf_timebase_mode : Instr.wellFormed (.timebase 0#2 5#3 0#32 0#32) = false := by decide
theorem test_wf_timebase_ckd : Instr.wellFormed (.timebase 3#2 0#3 0#32 0#32) = false := by decide
theorem test_wf_timebase_good : Instr.wellFormed (.timebase 2#2 4#3 0#32 0#32) = true := by decide
theorem test_wf_chpwm : [0#4, 1#4, 4#4, 5#4, 15#4].map (fun c => Instr.wellFormed (.chpwm c 0#32)) =
    [false, true, true, false, false] := by decide
theorem test_wf_sign : [0#4, 1#4, 3#4, 4#4, 15#4].map (fun c => Instr.wellFormed (.sign c 0#64)) =
    [false, true, true, false, false] := by decide
theorem test_wf_duty : [0#4, 1#4, 4#4, 5#4].map (fun c => Instr.wellFormed (.duty c 0#64)) =
    [false, true, true, false] := by decide
theorem test_wf_torque : [0#4, 1#4, 3#4, 4#4].map (fun c => Instr.wellFormed (.torque c 0#64)) =
    [false, true, true, false] := by decide
theorem test_wf_params : params.wellFormed = true := by decide
theorem test_wf_gain :
    [0x7FF0000000000000#64, 0x7FF8000000000000#64, 0xBFF0000000000000#64, 0#64, 1#64].map gainOk =
      [false, false, false, false, true] := by decide
theorem test_wf_tch : tchOk ⟨.c1, .c2, .c1, .c4⟩ = false ∧ tchOk ⟨.c4, .c3, .c2, .c1⟩ = true := by decide
theorem test_wf_swap : swapOk ⟨false, false, false⟩ = false ∧ swapOk ⟨false, true, false⟩ = false ∧
    swapOk ⟨true, false, false⟩ = true := by decide

/-! ### Decoding: words written out from R100 to R108 -/

theorem test_decode_initmotor : decode 0x10000000000000000000#80 = .ok .initmotor := by decide
theorem test_decode_timebase : decode 0x20210000000700000005#80 = .ok (.timebase 2#2 1#3 7#32 5#32) := by decide
theorem test_decode_timebase_wide :
    decode 0x20030000FFFFFFFFFFFF#80 = .ok (.timebase 0#2 3#3 0xFFFF#32 0xFFFFFFFF#32) := by decide
theorem test_decode_chpwm : decode 0x340000000000FFFFFFFF#80 = .ok (.chpwm 4#4 0xFFFFFFFF#32) := by decide
theorem test_decode_start : decode 0x40000000000000000000#80 = .ok .start := by decide
theorem test_decode_sign : decode 0x5100C014000000000000#80 = .ok (.sign 1#4 0xC014000000000000#64) := by decide
theorem test_decode_duty : decode 0x64003FF0000000000000#80 = .ok (.duty 4#4 0x3FF0000000000000#64) := by decide
theorem test_decode_torque : decode 0x7300BF847AE147AE147B#80 = .ok (.torque 3#4 0xBF847AE147AE147B#64) := by decide
theorem test_encode_timebase : encode (.timebase 1#2 2#3 83#32 999#32) = 0x201200000053000003E7#80 := by decide
theorem test_decode_table_word : decodeTableWord 80 0x320000000000000000FA = some (.chpwm 2#4 250#32) := by decide

/-- R110 (a): the undefined opcodes, the all-zero word among them. -/
theorem test_illegal_opcode :
    [0x00000000000000000000#80, 0x80000000000000000000#80, 0xF0000000000000000000#80].map decoded =
      [none, none, none] := by decide

/-- R110 (b): each reserved field of each format, one bit of it set. -/
theorem test_illegal_reserved :
    [0x11000000000000000000#80, 0x10010000000000000000#80, 0x40000000000000000001#80, 0x21000000000000000000#80,
     0x20080000000000000000#80, 0x20400000000000000000#80, 0x20800000000000000000#80, 0x31010000000000000000#80,
     0x31000000000100000000#80, 0x51800000000000000000#80, 0x61013FE0000000000000#80, 0x77013F847AE147AE147B#80].map
      decoded = List.replicate 12 none := by decide

/-! ### The commands, one step each -/

/-- V-T11, R133: INITMOTOR is the first command after reset. -/
theorem test_initmotor_queues :
    shown (fun t => (t.q.length, t.q.head?, t.q.getLast?)) (exec .initmotor fresh) =
      some (41, some (.x .clockEnable), some (.k .initDone)) := by decide

/-- V-F25: a second INITMOTOR. -/
theorem test_initmotor_twice : shown latch (exec .initmotor ready) = some (true, 4#3, 0x1000#16) := by decide

/-- V-T3. -/
theorem test_timebase_queues :
    shown State.q (exec (.timebase 1#2 2#3 83#32 999#32) fresh) =
      some [.m .cr1 0x370#32 0x120#32, .w .arr 999#32, .w .psc 83#32, .w .egr 1#32, .k .tbDone] := by decide

/-- R224: mode 5 is no member of the enumeration. -/
theorem test_timebase_operand :
    shown latch (exec (.timebase 0#2 5#3 0#32 0#32) fresh) = some (true, 3#3, 0x2005#16) := by decide

/-- V-T7. -/
theorem test_chpwm_queues :
    shown State.q (exec (.chpwm 3#4 259#32) fresh) =
      some [.m .ccer 0x100#32 0#32, .m .ccmr2 0x70#32 0x60#32, .m .ccer 0x200#32 0x100#32, .w (.ccr .c3) 259#32,
            .m .ccmr2 0#32 0x8#32, .m .cr1 0#32 0x80#32, .k (.cfgd .c3)] := by decide

/-- R131 corner case (g). -/
theorem test_chpwm_channel : shown latch (exec (.chpwm 5#4 0#32) fresh) = some (true, 2#3, 0x3500#16) := by decide

/-- V-T12: START when already started. -/
theorem test_start_queues :
    shown State.q (exec .start ready) = some [.m .cr1 0#32 1#32, .k .initDone] := by decide

/-- R132: START straight after reset, offered as the next word of the host. -/
theorem test_start_from_reset :
    shown latch (step (State.reset.withFetchWord 80 0x40000000000000000000)) = some (true, 4#3, 0x4000#16) := by
  decide

/-- V-S9: pair 2 has SWAP = 1. -/
theorem test_sign_queues :
    shown State.q (exec (.sign 2#4 0xC014000000000000#64) ready) =
      some [.p .p2 true false, .z .reverse 0x4014000000000000#64] := by decide

/-- V-S4: minus zero is Forward and keeps its pattern. -/
theorem test_sign_minus_zero :
    shown State.q (exec (.sign 1#4 0x8000000000000000#64) ready) =
      some [.p .p1 true false, .z .forward 0x8000000000000000#64] := by decide

/-- V-D13: 0.3 rounds up in binary64 mode. -/
theorem test_duty_binary64 :
    shown State.q (exec (.duty 1#4 0x3FD3333333333333#64) ready) = some [.w (.ccr .c1) 300#32] := by
  decide +kernel

/-- V-D13 with exact arithmetic, and V-D18. -/
theorem test_duty_exact :
    dutyCount { params with arith := .exact } 0x3FD3333333333333#64 = 299#32 ∧
      dutyCount params 0x3FEFFFFFFFFFFFFF#64 = 999#32 := by decide +kernel

/-- V-Q18. -/
theorem test_torque_queues :
    shown State.q (exec (.torque 3#4 0xBF847AE147AE147B#64) ready) =
      some [.p .p3 true false, .s .p3 0x3FE4D77318FC5048#64, .w (.ccr .c3) 651#32] := by decide +kernel

/-- V-Q13: the count of 1e8 does not fit. -/
theorem test_torque_range :
    shown latch (exec (.torque 1#4 0x4197D78400000000#64) ready) = some (true, 7#3, 0x7100#16) := by decide +kernel

/-! ### The machine under the commands -/

/-- Section 2.8: the write masks. -/
theorem test_write_masks :
    (regWrite .cr1 0xFFFFFFFF#32 fresh).cr1 = 0x3F1#32 ∧ (regWrite .ccmr1 0xFFFFFFFF#32 fresh).ccmr1 = 0x7878#32 ∧
      (regWrite .ccer 0xFFFFFFFF#32 fresh).ccer = 0x3333#32 ∧ (regWrite .psc 0x12345#32 fresh).psc = 0x2345#16 := by
  decide

/-- V-T4: update generation in mode Down loads CNT from the ARR just copied. -/
theorem test_update_down :
    (regWrite .egr 1#32 { fresh with cr1 := 0x210#32, arr := 5#32 }).cnt = 5#32 := by decide

/-- The table of 43_timebase_operation.md: the wrap is the update event. -/
theorem test_tick_wraps :
    shown (fun t => (t.cnt, t.pscCnt, t.ccrA.a1))
      (tick { running with cnt := 9#32, pscCnt := 1#16, ccr := Quad.all 6#32 }) = some (0#32, 0#16, 6#32) := by decide

/-- R42, U13: an enabled tick is refused where CKD = 11; R201: CKD = 10 has no effect on it. -/
theorem test_tick_division :
    tick undivided = .refused .clockDivisionWithoutMeaning ∧
      shown (fun t => (t.cnt, t.pscCnt)) (tick { running with cr1 := 0x281#32 }) = some (0#32, 1#16) := ⟨rfl, by decide⟩

/-- R105: the bits of every mode, those of 1 and 3 among them. -/
theorem test_mode_bits : modeBits 1#3 = some 0b001#3 ∧ modeBits 3#3 = some 0b100#3 ∧ modeBits 7#3 = none := by decide

/-- The same table, columns 5 and 6: the output falls where CNT reaches 3. -/
theorem test_output_falls :
    shown (fun t => t.pwmOut .c1) (ticks 5 running) = some (some true) ∧
      shown (fun t => t.pwmOut .c1) (ticks 6 running) = some (some false) := by decide

/-- V-M2, V-M11: EGR reads as 0, an unassigned offset is refused. -/
theorem test_bus_reads :
    shown (fun t => t.env.seen) (act (.read 0x14) ready) = some (.bits 32 0) ∧
      act (.read 0x04) ready = .refused (.unassignedOffset 0x04) := ⟨by decide, rfl⟩

/-- R19: a step takes the script's move; V-F40: RESET leaves the faulted state. -/
theorem test_step_resets : shown latch (step (scripted [.reset] faulted)) = some (false, 0#3, 0#16) := by decide

/-- V-E16: SDUTY 3, -0.25. -/
theorem test_sduty :
    (expandSduty 3#4 0xBFD0000000000000#64).map encode =
      [0x5300BFD0000000000000#80, 0x63003FD0000000000000#80] := by decide

/-- V-E2: the text of a command. -/
theorem test_assembly : assembly (.timebase 0#2 0#3 0#32 1000#32) = some "TIMEBASE 1000, 0, DIV1, UP" := by
  decide +kernel

/-! ### Witnesses: states and operands that meet the hypotheses of the statements -/

theorem witness_StepIsOneMove :
    (scripted [.tick] ready).env.script = [.tick] ∧ fresh.env.script = [] := ⟨rfl, rfl⟩

theorem witness_StepRunsOfferedCommand :
    (scripted [.offer 0x40000000000000000000#80] ready).env.script = [.offer 0x40000000000000000000#80] ∧
      decode 0x40000000000000000000#80 = .ok .start := ⟨rfl, by decide⟩

theorem witness_FetchWordRunsNext : decodeTableWord 80 0x10000000000000000000 = some .initmotor := by decide

theorem witness_EncodeOfDecode : decode 0x40000000000000000000#80 = .ok .start := by decide

/-- The least and the greatest mode and clock division. -/
theorem witness_TimebaseCompletes :
    fresh.cmdReady = true ∧ (modeBits 0#3 = some 0#3 ∧ (0#2 : BitVec 2) ≠ 3#2) ∧
      (modeBits 4#3 = some 6#3 ∧ (2#2 : BitVec 2) ≠ 3#2) := by decide

/-- The least and the greatest channel. -/
theorem witness_ChpwmCompletes :
    fresh.cmdReady = true ∧ channelOf 1#4 = some .c1 ∧ channelOf 4#4 = some .c4 := by decide

theorem witness_ChpwmConfiguresOneChannel : (Channel.c2 : Channel) ≠ .c1 := by decide

theorem witness_StartCompletes :
    ready.cmdReady = true ∧ ready.tbDone = true ∧ ∀ c : Channel, ready.cfgd.get c = true :=
  ⟨rfl, rfl, fun c => by cases c <;> rfl⟩

theorem witness_InitmotorCompletes : fresh.cmdReady = true ∧ fresh.initDone = false := by decide

theorem witness_ComponentCommandsInitialise :
    fresh.dirA = Triple.all false ∧ fresh.dirB = Triple.all false ∧ (Channel.c1 : Channel) ≠ .c4 := by decide

/-- The least and the greatest pair, a value below zero and one not below zero. -/
theorem witness_SignCompletes :
    ready.cmdReady = true ∧ ready.initDone = true ∧ pairOf 1#4 = some .p1 ∧ pairOf 3#4 = some .p3 ∧
      isNaN 0xFFF0000000000000#64 = false ∧ isNaN 0x4014000000000000#64 = false := by decide

/-- The least and the greatest channel, both infinities, preload on and off. -/
theorem witness_DutyCompletes :
    ready.cmdReady = true ∧ ready.initDone = true ∧ channelOf 1#4 = some .c1 ∧ channelOf 4#4 = some .c4 ∧
      isNaN 0xFFF0000000000000#64 = false ∧ isNaN 0x7FF0000000000000#64 = false ∧
      ready.ocPreload (ready.cfg.tch.get .c1) = true := by decide

/-- V-Q1 and V-Q11: an ordinary count, and the greatest of the vectors that fits. -/
theorem witness_TorqueCompletes :
    (ready.cmdReady = true ∧ ready.initDone = true ∧ pairOf 1#4 = some .p1 ∧
      isNaN 0x3F847AE147AE147B#64 = false ∧ torqueCount ready.cfg 0x3F847AE147AE147B#64 = some 651#32 ∧
      ready.ocPreload (ready.cfg.tch.get Pair.p1.channel) = true) ∧
    torqueCount ready.cfg 0x40F0198000000000#64 = some 4294932719#32 := by decide +kernel

/-- Busy, and faulted. -/
theorem witness_OfferedWordWaitsWhenNotReady : driving.cmdReady = false ∧ faulted.cmdReady = false := by decide

/-- A command taken, one that faults, and one that waits. -/
theorem witness_AcceptanceChangesOnlyQueueOrLatch :
    (∃ t, exec .start ready = .next t) ∧ (∃ t, exec .initmotor ready = .next t) ∧ ∃ t, exec .start faulted = .next t :=
  ⟨⟨_, rfl⟩, ⟨_, rfl⟩, ⟨_, rfl⟩⟩

/-- The all-zero word, and a DUTY word with the highest bit of `aux` set (V-F31). -/
theorem witness_IllegalWordFaults :
    fresh.cmdReady = true ∧ illegalWord 0#80 ∧ illegalWord 0x61803FE0000000000000#80 := by
  unfold illegalWord
  decide

/-- The values on either side of the ranges. -/
theorem witness_BadChannelFaults :
    fresh.cmdReady = true ∧ channelInRange 0#4 = false ∧ channelInRange 5#4 = false ∧ pairInRange 0#4 = false ∧
      pairInRange 4#4 = false := by decide

theorem witness_BadTimebaseOperandFaults :
    fresh.cmdReady = true ∧ 4 < (5#3 : BitVec 3).toNat ∧ (4#3 : BitVec 3).toNat ≤ 4 ∧ (2#2 : BitVec 2) ≠ 3#2 := by
  decide

theorem witness_SequenceFaults :
    (ready.cmdReady = true ∧ ready.initDone = true) ∧ (fresh.cmdReady = true ∧ fresh.tbDone = false) ∧
      ∃ c : Channel, fresh.cfgd.get c = false := ⟨by decide, by decide, .c4, rfl⟩

/-- Before and after initialisation, at both ends of both ranges. -/
theorem witness_ControlCommandFaults :
    (fresh.cmdReady = true ∧ fresh.initDone = false) ∧
    (ready.cmdReady = true ∧ ready.initDone = true ∧ isNaN 0x7FF0000000000001#64 = true) ∧
    pairInRange 1#4 = true ∧ pairInRange 3#4 = true ∧ channelInRange 1#4 = true ∧ channelInRange 4#4 = true := by
  decide

/-- V-Q15: an infinite torque. -/
theorem witness_TorqueRangeFaults_infinite :
    ready.cmdReady = true ∧ ready.initDone = true ∧ pairOf 3#4 = some .p3 ∧
      isNaN 0x7FF0000000000000#64 = false ∧ ready.cfg.torqueClamp = false ∧
      torqueDuty ready.cfg 0x7FF0000000000000#64 = .inf := by decide +kernel

/-- V-Q12: the least count of the vectors that does not fit. -/
theorem witness_TorqueRangeFaults_wide :
    torqueDuty ready.cfg 0x40F0199000000000#64 = .fin (magnitude 0x4150625576666666#64) ∧
      scale ready.cfg (magnitude 0x4150625576666666#64) = some 4294997850 ∧ 2 ^ 32 ≤ 4294997850 := by
  decide +kernel

/-- V-Q11: the greatest count of the vectors that fits. -/
theorem witness_TorqueRangeFaults_fits :
    torqueDuty ready.cfg 0x40F0198000000000#64 = .fin (magnitude 0x415062452E147AE1#64) ∧
      scale ready.cfg (magnitude 0x415062452E147AE1#64) = some 4294932719 ∧ 4294932719 < 2 ^ 32 := by
  decide +kernel

/-- A finite duty-equivalent value whose product with the period overflows binary64. -/
theorem witness_TorqueRangeFaults_overflow :
    torqueDuty ready.cfg 0x7F00000000000000#64 = .fin (magnitude (torqueScratch ready.cfg 0x7F00000000000000#64)) ∧
      scale ready.cfg (magnitude (torqueScratch ready.cfg 0x7F00000000000000#64)) = none := by
  decide +kernel

theorem faulted_latch : faulted.LatchConsistent := ⟨by decide, by decide⟩

theorem witness_FaultIsSticky :
    faulted.LatchConsistent ∧ faulted.fault = true ∧ (Move.tick ≠ .reset) ∧ ∃ t, act .tick faulted = .next t :=
  ⟨faulted_latch, rfl, by decide, _, rfl⟩

theorem witness_FaultDoesNotStopTheTimebase :
    (∃ t, tick running = .next t) ∧ tick countingDown = .refused .tickInUndefinedMode ∧
      tick undivided = .refused .clockDivisionWithoutMeaning := ⟨⟨_, rfl⟩, rfl, rfl⟩

theorem witness_RegisterWriteFrame : TimerReg.arr ≠ .egr ∧ TimerReg.ccr .c2 ≠ TimerReg.arr := by decide

theorem witness_PreloadDefersTheWrite :
    running.arpe = true ∧ fresh.arpe = false ∧ running.ocPreload .c4 = true ∧ fresh.ocPreload .c4 = false := by decide

theorem witness_UpdateGeneration :
    (0xFFFFFFFE#32 : Word).getLsbD 0 = false ∧ (1#32 : Word).getLsbD 0 = true := by decide

/-- An observation, the first and the last offset of the map, an offset between two registers, and a reference and an
output with and without a value. -/
theorem witness_HostReadHasNoSideEffect :
    (∃ t, act (.observe (.pwmOut .c1)) running = .next t) ∧ regOffset .cr1 = 0x00 ∧ regOffset (.ccr .c4) = 0x40 ∧
      (∀ r : TimerReg, regOffset r ≠ 0x30) ∧ running.ocRef .c1 = some true ∧ running.pwmOut .c1 = some true ∧
      { running with ccmr1 := 0x70#32 }.ocRef .c1 = none ∧ { running with ccmr1 := 0x70#32 }.pwmOut .c1 = none :=
  ⟨⟨_, rfl⟩, rfl, rfl, fun r => by cases r with
    | ccr c => cases c <;> decide
    | _ => decide, by decide, by decide, by decide, by decide⟩

theorem witness_SequencerPerformsTheOldest :
    driving.q = [.p .p1 false true, .z .reverse 0x4014000000000000#64] ∧ ready.q = [] := ⟨rfl, rfl⟩

/-- Each clause, at the counts where they meet. -/
theorem witness_TickFollowsTheRule :
    fresh.cen = false ∧ (countingDown.cen = true ∧ countingDown.counterMode ≠ 0#3) ∧
    (undivided.cen = true ∧ undivided.counterMode = 0#3 ∧ undivided.ckd = 3#2) ∧
    (running.cen = true ∧ running.counterMode = 0#3 ∧ running.ckd ≠ 3#2) ∧ running.pscCnt.toNat < running.pscA.toNat ∧
    ({ running with pscCnt := 1#16 }.pscA.toNat ≤ { running with pscCnt := 1#16 }.pscCnt.toNat ∧
      { running with pscCnt := 1#16 }.cnt ≠ { running with pscCnt := 1#16 }.arrA) ∧
    { running with pscCnt := 1#16, cnt := 9#32 }.cnt = { running with pscCnt := 1#16, cnt := 9#32 }.arrA := by decide

theorem witness_TickFrame : ∃ t, act .tick { running with pscCnt := 1#16, cnt := 9#32 } = .next t := ⟨_, rfl⟩

theorem witness_OutputFollowsTheCounter :
    (running.ocMode .c1 = 6#3 ∧ running.ccEnable .c1 = true ∧ running.ocRef .c1 = some true) ∧
      (fresh.ocMode .c1 = 0#3 ∧ fresh.ccEnable .c1 = false) ∧
      { fresh with ccmr1 := 0x70#32 }.ocMode .c1 ≠ 6#3 ∧ { fresh with ccmr1 := 0x70#32 }.ocMode .c1 ≠ 0#3 := by
  decide

theorem running_start : running.PeriodStart := ⟨by decide, by decide, by decide, by decide, by decide⟩

/-- The first and the last tick of the period of 20. -/
theorem witness_PwmPeriodLaw : running.PeriodStart ∧ running.periodTicks = 20 ∧ 0 < running.periodTicks ∧
    19 < running.periodTicks := ⟨running_start, by decide, by decide, by decide⟩

theorem witness_DutyFraction : running.PeriodStart ∧ running.ocMode .c1 = 6#3 ∧ running.ccEnable .c1 = true ∧
    running.ccPolarity .c1 = false := ⟨running_start, by decide, by decide, by decide⟩

/-- A write at tick 7 (program P3): inside the period, and up to its end. -/
theorem witness_PreloadSafety : running.PeriodStart ∧ running.ocPreload .c1 = true ∧ running.arpe = true ∧ 7 < running.periodTicks ∧
    7 + 12 < running.periodTicks ∧ 7 + 13 = running.periodTicks :=
  ⟨running_start, by decide, by decide, by decide, by decide, by decide⟩

theorem witness_ScaleIsTheRule :
    params.arith = .binary64 ∧ { params with arith := Arith.exact }.arith = .exact ∧
      scale params Frac.one = some 1000 ∧ fracRat Frac.one ≤ 1 := by
  refine ⟨by decide, by decide, by decide +kernel, ?_⟩
  simp [fracRat, Frac.one]

theorem witness_DutyCountIsScaledAndBounded :
    (isNaN 0x3FF0000000000000#64 = false ∧ isInf 0x3FF0000000000000#64 = false) ∧
      (isNaN 0xFFF0000000000000#64 = false ∧ isInf 0xFFF0000000000000#64 = true) := by decide

/-- The least value above 1.0 and the greatest below 0.0. -/
theorem witness_DutySaturates : gt1 0x3FF0000000000001#64 = true ∧ lt0 0x8000000000000001#64 = true := by decide

theorem witness_DutyIsMonotonic :
    isNaN 0xBFF0000000000000#64 = false ∧ isNaN 0x3FF8000000000000#64 = false ∧
      clampRat 0xBFF0000000000000#64 ≤ clampRat 0x3FF8000000000000#64 := by
  refine ⟨by decide, by decide, ?_⟩
  have h : lt0 0xBFF0000000000000#64 = true ∧ lt0 0x3FF8000000000000#64 = false ∧
      gt1 0x3FF8000000000000#64 = true := by decide
  simp [clampRat, h]

theorem witness_ClampedTorqueNeverOutOfRange :
    { params with torqueClamp := true }.torqueClamp = true ∧
      (isNaN 0x7FF0000000000000#64 = false ∧ torqueDuty params 0x7FF0000000000000#64 = .inf) ∧
      isNaN 0#64 = false ∧ torqueDuty params 0#64 = .fin (magnitude 0#64) := by decide +kernel

/-- An infinite torque, an ordinary one, and 1e307 (V-Q14), whose product overflows; both arithmetic modes. -/
theorem witness_GainStageIsTheRule :
    params.wellFormed = true ∧ { params with arith := Arith.exact }.wellFormed = true ∧
    (isNaN 0xFFF0000000000000#64 = false ∧ isInf 0xFFF0000000000000#64 = true) ∧
    (isNaN 0x3F847AE147AE147B#64 = false ∧ isInf 0x3F847AE147AE147B#64 = false ∧ params.arith = .binary64 ∧
      torqueScratch params 0x3F847AE147AE147B#64 ≠ 0x7FF0000000000000#64) ∧
    (isInf 0x7FAC7B1F3CAC7433#64 = false ∧ torqueScratch params 0x7FAC7B1F3CAC7433#64 = 0x7FF0000000000000#64) ∧
    { params with arith := Arith.exact }.arith = .exact := by decide +kernel

theorem witness_PinTable : params.swap.get .p1 = false ∧ params.swap.get .p2 = true := by decide

theorem witness_SignSplit :
    (isNaN 0x8000000000000000#64 = false ∧ isInf 0x8000000000000000#64 = false ∧
      isZero 0x8000000000000000#64 = true) ∧
    (isNaN 0xFFF0000000000000#64 = false ∧ isInf 0xFFF0000000000000#64 = true) := by decide

theorem poised_exclusive : poised.PinsExclusive := fun m => by cases m <;> decide

theorem witness_StepNeverShortsAPair : poised.NeverShorted ∧ ∃ t, step poised = .next t :=
  ⟨⟨poised_exclusive, fun m => by cases m <;> decide⟩, _, rfl⟩

theorem poised_set (c : Channel) : poised.ChannelSet c := by
  cases c <;> exact ⟨by decide, by decide, by decide⟩

/-- A running core with a SIGN in its queue meets the invariant. -/
theorem poised_invariant : poised.Invariant where
  facts :=
    { prescale := by decide
      running := fun _ => ⟨rfl, fun c => ⟨poised_set c, by cases c <;> rfl⟩⟩
      count := fun _ _ => by decide
      modes := fun c => ⟨.inr (poised_set c).2.2, by cases c <;> decide⟩
      pins := poised_exclusive
      started := fun _ => by decide
      arrShadow := fun h => by revert h; decide
      ccrShadow := fun c h => by rw [(poised_set c).2.1] at h; cases h
      modeLegal := ⟨0#3, by decide⟩
      ckdLegal := by decide }
  counting := fun _ => by decide
  configured := fun c _ => poised_set c
  queue := by
    refine ⟨⟨by decide, fun h => absurd h (by decide)⟩, trivial, ?_⟩
    show (0#32 : Word) ≤ 9#32
    decide
  bound := by decide
  latch := ⟨fun _ => ⟨rfl, rfl⟩, fun h => by revert h; decide⟩

/-- Pair 1 is Forward and pair 2 is Reverse, and the sequencer is about to reverse pair 1. -/
theorem witness_PairNeverReturnsToBothOff :
    poised.Invariant ∧ poised.initDone = true ∧ Move.sequencer ≠ .reset ∧
      poised.pairState .p1 = some .forwardAsserted ∧ poised.pairState .p2 = some .reverseAsserted ∧
      poised.tbDone = true ∧ poised.cfgd.get .c4 = true ∧ ∃ t, act .sequencer poised = .next t :=
  ⟨poised_invariant, rfl, by decide, by decide, by decide, rfl, rfl, _, rfl⟩

theorem witness_StepKeepsReservedBitsZero : poised.ReservedZero ∧ ∃ t, step poised = .next t :=
  ⟨⟨by decide, by decide, by decide, by decide⟩, _, rfl⟩

theorem witness_EnablesAreNeverCleared :
    poised.QueueKeepsEnables ∧ Move.sequencer ≠ .reset ∧ (∃ t, act .sequencer poised = .next t) ∧
      poised.cen = true ∧ poised.arpe = true ∧ poised.ocPreload .c1 = true :=
  ⟨by unfold State.QueueKeepsEnables; decide, by decide, ⟨_, rfl⟩, by decide, by decide, by decide⟩

theorem witness_StepKeepsTheInvariant : poised.Invariant ∧ ∃ t, step poised = .next t :=
  ⟨poised_invariant, _, rfl⟩

end Sys2Proof.Tests
end

section
/-! The rounding of the model against the formula of R18 over the rationals. -/

namespace Sys2Proof.Machine

/-! ### The parts of the formula on a quotient by a power of two -/

/-- `floor(log2 q)` (R18) of a quotient by a power of two, from the length of its numerator. -/
theorem log_div_two_pow {n : ℕ} (hn : n ≠ 0) (s : ℕ) :
    Int.log 2 ((n : ℚ) / 2 ^ s) = (Nat.log2 n : ℤ) - s := by
  have hpos : (0 : ℚ) < (n : ℚ) / 2 ^ s := by positivity
  have below : (2 : ℚ) ^ Nat.log2 n ≤ n := mod_cast Nat.log2_self_le hn
  have above : (n : ℚ) < 2 ^ (Nat.log2 n + 1) := mod_cast Nat.lt_log2_self
  apply le_antisymm
  · rw [← Int.lt_add_one_iff, ← Int.lt_zpow_iff_log_lt one_lt_two hpos, Nat.cast_ofNat,
      sub_add_eq_add_sub, zpow_sub₀ two_ne_zero, zpow_natCast]
    gcongr
    exact_mod_cast above
  · rw [← Int.zpow_le_iff_le_log one_lt_two hpos, Nat.cast_ofNat, zpow_sub₀ two_ne_zero,
      zpow_natCast, zpow_natCast]
    gcongr

/-- `rne` (R18) of a quotient by a power of two: the remainder, compared with half of the divisor, is the fractional
part, compared with one half. -/
theorem nearestEven_div_two_pow (n d : ℕ) : nearestEven ((n : ℚ) / 2 ^ d) = roundHalfEven n d := by
  have hd : (0 : ℚ) < 2 ^ d := by positivity
  have whole : ⌊(n : ℚ) / 2 ^ d⌋ = (n / 2 ^ d : ℕ) := mod_cast Rat.floor_natCast_div_natCast n (2 ^ d)
  have rest : (n : ℚ) / 2 ^ d - (n / 2 ^ d : ℕ) = (n % 2 ^ d : ℕ) / 2 ^ d := by
    have split : (2 : ℚ) ^ d * (n / 2 ^ d : ℕ) + (n % 2 ^ d : ℕ) = n := mod_cast Nat.div_add_mod n (2 ^ d)
    rw [eq_div_iff hd.ne', sub_mul, div_mul_cancel₀ _ hd.ne']
    linarith
  have below : (n % 2 ^ d : ℕ) / 2 ^ d < (1 / 2 : ℚ) ↔ 2 * (n % 2 ^ d) < 2 ^ d := by
    rw [div_lt_div_iff₀ hd two_pos, one_mul, mul_comm]
    exact_mod_cast Iff.rfl
  have above : (1 / 2 : ℚ) < (n % 2 ^ d : ℕ) / 2 ^ d ↔ 2 ^ d < 2 * (n % 2 ^ d) := by
    rw [div_lt_div_iff₀ two_pos hd, one_mul, mul_comm _ (2 : ℚ)]
    exact_mod_cast Iff.rfl
  simp only [nearestEven, whole, Int.cast_natCast, rest, below, above, roundHalfEven]
  split_ifs <;> omega

/-! ### The value over the denominator `2 ^ s`, `s ≥ 1074` -/

/-- The numerator of the value over the denominator `2 ^ max v.exp 1074`, which round64 works with. -/
theorem fracRat_eq_over_max (v : Frac) :
    fracRat v = ((v.num * 2 ^ (1074 - v.exp) : ℕ) : ℚ) / 2 ^ max v.exp 1074 := by
  have hs : max v.exp 1074 = v.exp + (1074 - v.exp) := by omega
  rw [fracRat, hs, pow_add, Nat.cast_mul, Nat.cast_pow, Nat.cast_ofNat,
    mul_div_mul_right _ _ (pow_ne_zero _ two_ne_zero)]

/-- `k` of R18 for `n / 2 ^ s`: the subtraction of naturals cuts `k + 1022` off at 0, as the maximum with −1022
does. -/
theorem roundExponent_div_two_pow {n : ℕ} (hn : n ≠ 0) (s : ℕ) :
    roundExponent ((n : ℚ) / 2 ^ s) = ((Nat.log2 n + 1022 - s : ℕ) : ℤ) - 1022 := by
  rw [roundExponent, log_div_two_pow hn]
  omega

/-- `q × 2 ^ (52 − k)` of R18 for `q = n / 2 ^ s` and `k = j − 1022`. -/
theorem div_two_pow_mul_zpow (n : ℕ) {s : ℕ} (hs : 1074 ≤ s) (j : ℕ) :
    (n : ℚ) / 2 ^ s * 2 ^ (52 - ((j : ℤ) - 1022)) = n / 2 ^ (s - 1074 + j) := by
  have hexp : (52 - ((j : ℤ) - 1022)) = (s : ℤ) - (s - 1074 + j : ℕ) := by omega
  rw [hexp, zpow_sub₀ two_ne_zero, zpow_natCast, zpow_natCast, div_mul_div_cancel₀ (pow_ne_zero _ two_ne_zero)]

/-- The formula of R18 for a positive `n / 2 ^ s`, with the integers round64 uses. -/
theorem round64Rule_div_two_pow {n s : ℕ} (hn : n ≠ 0) (hs : 1074 ≤ s) :
    round64Rule ((n : ℚ) / 2 ^ s) =
      (min ((Nat.log2 n + 1022 - s) * 2 ^ 52 + roundHalfEven n (s - 1074 + (Nat.log2 n + 1022 - s)))
        0x7FF0000000000000 : ℕ) := by
  have hq : (n : ℚ) / 2 ^ s ≠ 0 := by positivity
  rw [round64Rule, if_neg hq, roundExponent_div_two_pow hn, div_two_pow_mul_zpow n hs, nearestEven_div_two_pow,
    sub_add_cancel]
  push_cast
  rfl

/-! ### round64 -/

theorem fracRat_eq_zero_iff (v : Frac) : fracRat v = 0 ↔ v.num = 0 := by
  simp [fracRat]

/-- The pattern of a positive value as a number: the bound at `+inf` fits 64 bits, so the word loses nothing. -/
theorem round64_toNat {v : Frac} (hv : v.num ≠ 0) :
    let n := v.num * 2 ^ (1074 - v.exp)
    let s := max v.exp 1074
    let j := Nat.log2 n + 1022 - s
    (round64 v).toNat = min (j * 2 ^ 52 + roundHalfEven n (s - 1074 + j)) 0x7FF0000000000000 := by
  intro n s j
  rw [round64, if_neg hv, BitVec.toNat_ofNat, Nat.mod_eq_of_lt]
  exact (Nat.min_le_right ..).trans_lt (by norm_num)

/-- Settles O45: both sides are 0 for the value 0; any other is put over a denominator `2 ^ s` with `s ≥ 1074`, where
each part of the formula is an integer of the model. -/
theorem roundingIsTheRule : Obligations.RoundingIsTheRule := by
  intro v
  by_cases hv : v.num = 0
  · rw [round64, if_pos hv, round64Rule, if_pos ((fracRat_eq_zero_iff v).mpr hv)]
    rfl
  · have hn : v.num * 2 ^ (1074 - v.exp) ≠ 0 := mul_ne_zero hv (pow_ne_zero _ two_ne_zero)
    rw [round64_toNat hv, fracRat_eq_over_max, round64Rule_div_two_pow hn (le_max_right ..)]

end Sys2Proof.Machine
end

section
/-! The registers' fields, the register map, the reference and the output of a channel, and the state after reset
(spec/10_state.md R41, R51, R54, R60; spec/20_memory.md R71, R76). -/

namespace Sys2Proof.Machine

/-! ### The reference and the output of a channel (R51, R54) -/

theorem ocRef_of_pwm1 {s : State} {c : Channel} (h : s.ocMode c = 6#3) :
    s.ocRef c = some (decide (s.cnt.toNat < (s.ccrA.get c).toNat)) := by
  simp [State.ocRef, h, BitVec.lt_def]

theorem ocRef_of_timing {s : State} {c : Channel} (h : s.ocMode c = 0#3) : s.ocRef c = some false := by
  simp [State.ocRef, h]

theorem ocRef_of_undefinedMode {s : State} {c : Channel} (h6 : s.ocMode c ≠ 6#3) (h0 : s.ocMode c ≠ 0#3) :
    s.ocRef c = none := by
  simp [State.ocRef, h6, h0]

theorem pwmOut_of_disabled {s : State} {c : Channel} (h : s.ccEnable c = false) : s.pwmOut c = some false := by
  simp [State.pwmOut, h]

/-- The model writes the exclusive-or of R51 as `xor`; as a comparison it is `!=`. -/
theorem pwmOut_of_enabled {s : State} {c : Channel} {r : Bool} (he : s.ccEnable c = true)
    (hr : s.ocRef c = some r) : s.pwmOut c = some (r != s.ccPolarity c) := by
  simp [State.pwmOut, he, hr]

/-- Settles O41: one rule per branch of the reference (R54) and of the output (R51). -/
theorem outputFollowsTheCounter : Obligations.OutputFollowsTheCounter := fun _ _ =>
  ⟨ocRef_of_pwm1, ocRef_of_timing, ocRef_of_undefinedMode, pwmOut_of_disabled, fun _ => pwmOut_of_enabled⟩

/-! ### The state after reset (R60) -/

@[simp] theorem modeWord_resetWith (p : Params) (e : Env) (c : Channel) :
    (State.resetWith p e).modeWord c = 0#32 := by
  cases c <;> rfl

@[simp] theorem ocMode_resetWith (p : Params) (e : Env) (c : Channel) : (State.resetWith p e).ocMode c = 0#3 := by
  simp [State.ocMode]

@[simp] theorem ccEnable_resetWith (p : Params) (e : Env) (c : Channel) :
    (State.resetWith p e).ccEnable c = false :=
  BitVec.getLsbD_zero

/-- Settles O1: the banks read one value at every index; every channel is in mode Timing and disabled, which gives its
reference and its output; the other items are fields of the state that reset builds. -/
theorem resetGivesTheStatedValues : Obligations.ResetGivesTheStatedValues := by
  intro p e s
  have banks (c : Channel) : s.ccr.get c = 0#32 ∧ s.ccrA.get c = 0#32 ∧ s.cfgd.get c = false :=
    ⟨Quad.get_all c _, Quad.get_all c _, Quad.get_all c _⟩
  have pairs (m : Pair) : s.dirA.get m = false ∧ s.dirB.get m = false ∧ s.dutyPrint.get m = 0#64 :=
    ⟨Triple.get_all m _, Triple.get_all m _, Triple.get_all m _⟩
  have signals (c : Channel) : s.ocRef c = some false ∧ s.pwmOut c = some false :=
    ⟨ocRef_of_timing (ocMode_resetWith p e c), pwmOut_of_disabled (ccEnable_resetWith p e c)⟩
  have ready : s.cmdReady = true := (cmdReady_iff s).mpr ⟨rfl, rfl⟩
  exact ⟨⟨rfl, rfl, rfl, rfl, rfl⟩, ⟨rfl, rfl, rfl, rfl, rfl⟩, banks, ⟨rfl, rfl, rfl, rfl, rfl, rfl⟩, pairs,
    ⟨rfl, rfl⟩, signals, rfl, ready⟩

/-! ### The register map (R71) and what a bus read returns (R76) -/

@[simp] theorem regAt_regOffset (r : TimerReg) : regAt (regOffset r) = some r := by
  cases r with
  | ccr c => cases c <;> rfl
  | _ => rfl

theorem regOffset_of_regAt {n : Nat} {r : TimerReg} (h : regAt n = some r) : regOffset r = n := by
  unfold regAt at h
  split at h <;> cases h <;> rfl

/-- The 16 bits of PSC are read zero-extended (R76). -/
theorem regRead_psc_toNat (s : State) : (regRead .psc s).toNat = s.psc.toNat :=
  BitVec.toNat_setWidth_of_le (by decide)

/-- Settles O10: the two tables are lists of closed values; the map of R71 is `regAt_regOffset` and its converse; each
field lies at the shift that the channel's row of R41 gives, and a read returns the register itself. -/
theorem channelTableAndRegisterMap : Obligations.ChannelTableAndRegisterMap := by
  refine ⟨rfl, rfl, regAt_regOffset, fun _ _ => regOffset_of_regAt, fun s => ⟨?ocMode, ?ocPreload, ?ccEnable,
    ?ccPolarity, ?reads⟩⟩
  case reads =>
    exact ⟨rfl, rfl, rfl, rfl, rfl, rfl, regRead_psc_toNat s, rfl, rfl, rfl, rfl, rfl⟩
  all_goals exact ⟨rfl, rfl, rfl, rfl⟩

end Sys2Proof.Machine
end

section
/-! Writes of the register bus, one rule per register (spec/20_memory.md R77 to R82), and what a read returns after
them (R76). -/

namespace Sys2Proof.Machine

/-! ### The registers behind a writable mask, and CNT (R77, R82) -/

theorem regWrite_cr1 (v : Word) (s : State) : regWrite .cr1 v s = { s with cr1 := v &&& cr1Mask } := rfl
theorem regWrite_ccmr1 (v : Word) (s : State) : regWrite .ccmr1 v s = { s with ccmr1 := v &&& ccmrMask } := rfl
theorem regWrite_ccmr2 (v : Word) (s : State) : regWrite .ccmr2 v s = { s with ccmr2 := v &&& ccmrMask } := rfl
theorem regWrite_ccer (v : Word) (s : State) : regWrite .ccer v s = { s with ccer := v &&& ccerMask } := rfl
theorem regWrite_cnt (v : Word) (s : State) : regWrite .cnt v s = { s with cnt := v } := rfl

/-! ### PSC (R78) -/

theorem regWrite_psc (v : Word) (s : State) : regWrite .psc v s = { s with psc := v.setWidth 16 } := rfl

/-- Settles O33: narrowing a word to 16 bits is the remainder modulo `2 ^ 16`. -/
theorem prescalerWriteTruncates : Obligations.PrescalerWriteTruncates := by
  intro s v
  have narrowed : v.setWidth 16 = BitVec.ofNat 16 (v.toNat % 2 ^ 16) :=
    BitVec.eq_of_toNat_eq (by simp)
  rw [regWrite_psc, narrowed]

/-! ### ARR and CCRc (R79, R80) -/

theorem regWrite_arr_of_preload {s : State} (v : Word) (h : s.arpe = true) :
    regWrite .arr v s = { s with arr := v } := by
  simp [regWrite, writeArr, h]

theorem regWrite_arr_of_no_preload {s : State} (v : Word) (h : s.arpe = false) :
    regWrite .arr v s = { s with arr := v, arrA := v } := by
  simp [regWrite, writeArr, h]

theorem regWrite_ccr_of_preload {s : State} {c : Channel} (v : Word) (h : s.ocPreload c = true) :
    regWrite (.ccr c) v s = { s with ccr := s.ccr.set c v } := by
  simp [regWrite, writeCcr, h]

theorem regWrite_ccr_of_no_preload {s : State} {c : Channel} (v : Word) (h : s.ocPreload c = false) :
    regWrite (.ccr c) v s = { s with ccr := s.ccr.set c v, ccrA := s.ccrA.set c v } := by
  simp [regWrite, writeCcr, h]

/-- Settles O34: one rule per register and preload setting. -/
theorem preloadDefersTheWrite : Obligations.PreloadDefersTheWrite := fun _ v =>
  ⟨regWrite_arr_of_preload v, regWrite_arr_of_no_preload v,
    fun _ => ⟨regWrite_ccr_of_preload v, regWrite_ccr_of_no_preload v⟩⟩

/-! ### EGR (R81, R195) -/

theorem regWrite_egr_of_bit_clear {v : Word} (s : State) (h : v.getLsbD 0 = false) : regWrite .egr v s = s :=
  if_neg (ne_true_of_eq_false h)

theorem regWrite_egr_of_bit_set {v : Word} (s : State) (h : v.getLsbD 0 = true) :
    regWrite .egr v s = updateGeneration s :=
  if_pos h

/-- The copies are those of the update event, so CNT takes the ARR that ARR_A takes (R195). -/
theorem updateGeneration_eq (s : State) :
    updateGeneration s =
      { s with pscA := s.psc, arrA := s.arr, ccrA := s.ccr, pscCnt := 0#16,
               cnt := if s.cr1.getLsbD 4 then s.arr else 0#32 } := rfl

/-- Settles O35: bit 0 of the data decides between no effect and update generation. -/
theorem updateGenerationLaw : Obligations.UpdateGeneration := fun s _ =>
  ⟨regWrite_egr_of_bit_clear s, fun h => (regWrite_egr_of_bit_set s h).trans (updateGeneration_eq s)⟩

/-! ### What a read returns after a write (R76) -/

/-- The zero-extended register is the data with bits 31:16 cleared. -/
theorem regRead_regWrite_psc (v : Word) (s : State) : regRead .psc (regWrite .psc v s) = v &&& 0xFFFF#32 := by
  have low : v.toNat &&& (2 ^ 16 - 1) = v.toNat % 2 ^ 16 := Nat.and_two_pow_sub_one_eq_mod v.toNat 16
  apply BitVec.eq_of_toNat_eq
  rw [regRead_psc_toNat, regWrite_psc, BitVec.toNat_setWidth, BitVec.toNat_and]
  exact low.symm

/-- A read returns the preload value, whether or not the write went through to the active register. -/
theorem regRead_regWrite_arr (v : Word) (s : State) : regRead .arr (regWrite .arr v s) = v :=
  writeArr_arr v s

theorem regRead_regWrite_ccr (c : Channel) (v : Word) (s : State) :
    regRead (.ccr c) (regWrite (.ccr c) v s) = v :=
  Quad.get_set_self s.ccr c v

theorem regRead_egr (s : State) : regRead .egr s = 0#32 := rfl

/-- Settles O31: the write rules of the masked registers and of CNT, and the read-backs of the others. -/
theorem registerReadsWhatWasWritten : Obligations.RegisterReadsWhatWasWritten := fun s v =>
  ⟨⟨regWrite_cr1 v s, regWrite_ccmr1 v s, regWrite_ccmr2 v s, regWrite_ccer v s, regWrite_cnt v s⟩,
    regRead_regWrite_psc v s, regRead_regWrite_arr v s, fun c => regRead_regWrite_ccr c v s, regRead_egr _⟩

end Sys2Proof.Machine
end

section
/-! Binary64 patterns by their fields and as rationals (spec/00_scope.md R17). -/

namespace Sys2Proof.Machine

/-! ### The fields of a pattern -/

theorem expField_eq (b : F64) : expField b = b.toNat / 2 ^ 52 % 2 ^ 11 := by
  rw [expField, BitVec.extractLsb'_toNat, Nat.shiftRight_eq_div_pow]

theorem fracField_eq (b : F64) : fracField b = b.toNat % 2 ^ 52 := by
  rw [fracField, BitVec.extractLsb'_toNat, Nat.shiftRight_zero]

theorem fracField_lt (b : F64) : fracField b < 2 ^ 52 := (b.extractLsb' 0 52).isLt

theorem signBit_eq_false_iff (b : F64) : signBit b = false ↔ b.toNat < 2 ^ 63 := by
  have h : b.msb = false ↔ 2 * b.toNat < 2 ^ 64 := BitVec.msb_eq_false_iff_two_mul_lt
  rw [BitVec.msb_eq_getLsbD_last] at h
  exact h.trans (by omega)

theorem toNat_eq_fields {b : F64} (h : signBit b = false) : b.toNat = expField b * 2 ^ 52 + fracField b := by
  rw [signBit_eq_false_iff] at h
  rw [expField_eq, fracField_eq]
  omega

theorem isInf_iff (b : F64) : isInf b = true ↔ expField b = 2047 ∧ fracField b = 0 := by simp [isInf]
theorem isZero_iff (b : F64) : isZero b = true ↔ expField b = 0 ∧ fracField b = 0 := by simp [isZero]

theorem expField_negF64 (b : F64) : expField (negF64 b) = expField b := by
  rw [expField, negF64, BitVec.extractLsb'_xor, show BitVec.extractLsb' 52 11 0x8000000000000000#64 = 0#11 by decide,
    BitVec.xor_zero, expField]

theorem fracField_negF64 (b : F64) : fracField (negF64 b) = fracField b := by
  rw [fracField, negF64, BitVec.extractLsb'_xor, show BitVec.extractLsb' 0 52 0x8000000000000000#64 = 0#52 by decide,
    BitVec.xor_zero, fracField]

theorem isInf_negF64 (b : F64) : isInf (negF64 b) = isInf b := by
  rw [isInf, expField_negF64, fracField_negF64, isInf]

theorem magnitude_negF64 (b : F64) : magnitude (negF64 b) = magnitude b := by
  rw [magnitude, expField_negF64, fracField_negF64, magnitude]

/-! ### The magnitude in units of `2 ^ (−1074)` -/

theorem magnitude_exp (b : F64) : (magnitude b).exp = 1074 := by
  unfold magnitude
  split <;> rfl

theorem magnitude_of_subnormal {b : F64} (h : expField b = 0) : magnitude b = ⟨fracField b, 1074⟩ := if_pos h

theorem magnitude_of_normal {b : F64} {k : ℕ} (h : expField b = k + 1) :
    magnitude b = ⟨(2 ^ 52 + fracField b) * 2 ^ k, 1074⟩ := by
  rw [magnitude, if_neg (by omega), h, Nat.add_sub_cancel]

theorem magnitude_num_lt (b : F64) : (magnitude b).num < 2 ^ 52 * 2 ^ expField b := by
  have hf := fracField_lt b
  cases h : expField b with
  | zero => rwa [magnitude_of_subnormal h, pow_zero, mul_one]
  | succ k =>
    calc (magnitude b).num = (2 ^ 52 + fracField b) * 2 ^ k := by rw [magnitude_of_normal h]
      _ < (2 ^ 52 * 2) * 2 ^ k := by gcongr; omega
      _ = 2 ^ 52 * 2 ^ (k + 1) := by ring

/-- Patterns with a clear sign bit are ordered as the values they stand for. -/
theorem magnitude_num_lt_of_toNat_lt {a b : F64} (ha : signBit a = false) (hb : signBit b = false)
    (h : a.toNat < b.toNat) : (magnitude a).num < (magnitude b).num := by
  rw [toNat_eq_fields ha, toNat_eq_fields hb] at h
  have hfa := fracField_lt a
  have hfb := fracField_lt b
  rcases Nat.lt_trichotomy (expField a) (expField b) with hlt | heq | hgt
  · obtain ⟨k, hk⟩ : ∃ k, expField b = k + 1 := ⟨expField b - 1, by omega⟩
    calc (magnitude a).num < 2 ^ 52 * 2 ^ expField a := magnitude_num_lt a
      _ ≤ (2 ^ 52 + fracField b) * 2 ^ k := by gcongr <;> omega
      _ = (magnitude b).num := by rw [magnitude_of_normal hk]
  · have hf : fracField a < fracField b := by omega
    cases hk : expField b with
    | zero => rwa [magnitude_of_subnormal (heq.trans hk), magnitude_of_subnormal hk]
    | succ k =>
      rw [magnitude_of_normal (heq.trans hk), magnitude_of_normal hk]
      exact Nat.mul_lt_mul_of_pos_right (Nat.add_lt_add_left hf _) (Nat.two_pow_pos k)
  · omega

/-! ### The rationals of the model -/

theorem fracRat_nonneg (v : Frac) : 0 ≤ fracRat v := by
  unfold fracRat
  positivity

theorem floor_fracRat (v : Frac) : ⌊fracRat v⌋ = (v.floor : ℤ) := by
  unfold fracRat Frac.floor
  exact_mod_cast Rat.floor_natCast_div_natCast v.num (2 ^ v.exp)

theorem fracRat_scaleNat (v : Frac) (n : ℕ) : fracRat (v.scaleNat n) = fracRat v * n := by
  rw [fracRat, Frac.scaleNat, Nat.cast_mul, mul_div_right_comm, fracRat]

theorem fracRat_mul (v u : Frac) : fracRat (v.mul u) = fracRat v * fracRat u := by
  rw [fracRat, Frac.mul, Nat.cast_mul, pow_add, mul_div_mul_comm, fracRat, fracRat]

theorem fracRat_le_natCast_iff (v : Frac) (n : ℕ) : fracRat v ≤ n ↔ v.num ≤ n * 2 ^ v.exp := by
  rw [fracRat, div_le_iff₀ (by positivity)]
  exact_mod_cast Iff.rfl

theorem fracRat_magnitude_lt_iff {a b : F64} (ha : signBit a = false) (hb : signBit b = false) :
    fracRat (magnitude a) < fracRat (magnitude b) ↔ a.toNat < b.toNat := by
  rw [fracRat, fracRat, magnitude_exp, magnitude_exp, div_lt_div_iff_of_pos_right (by positivity), Nat.cast_lt]
  refine ⟨fun h => lt_of_not_ge fun hle => ?_, magnitude_num_lt_of_toNat_lt ha hb⟩
  rcases hle.lt_or_eq with hlt | heq
  · exact (magnitude_num_lt_of_toNat_lt hb ha hlt).asymm h
  · exact h.ne' (congrArg (Frac.num ∘ magnitude) (BitVec.eq_of_toNat_eq heq))

/-- The formulas of R17 give the magnitude, with the sign in front. -/
theorem valRat_eq (b : F64) : valRat b = (if signBit b then -1 else 1) * fracRat (magnitude b) := by
  unfold valRat
  congr 1
  cases h : expField b with
  | zero =>
    have hexp : (-1074 : ℤ) = -(1074 : ℕ) := rfl
    rw [if_pos rfl, magnitude_of_subnormal h, hexp, zpow_neg, zpow_natCast, ← div_eq_mul_inv, fracRat]
  | succ k =>
    have hexp : ((k + 1 : ℕ) : ℤ) - 1075 = (k : ℤ) - (1074 : ℕ) := by omega
    rw [if_neg (Nat.succ_ne_zero k), magnitude_of_normal h, fracRat, hexp, zpow_sub₀ two_ne_zero, zpow_natCast,
      zpow_natCast, mul_div_assoc', Nat.cast_mul, Nat.cast_add, Nat.cast_pow, Nat.cast_pow, Nat.cast_ofNat]

theorem valRat_of_signBit_false {b : F64} (h : signBit b = false) : valRat b = fracRat (magnitude b) := by
  rw [valRat_eq, h, if_neg Bool.false_ne_true, one_mul]

theorem abs_valRat (b : F64) : |valRat b| = fracRat (magnitude b) := by
  rw [valRat_eq]
  cases signBit b <;> simp [abs_of_nonneg (fracRat_nonneg _)]

theorem valRat_of_isZero {b : F64} (h : isZero b = true) : valRat b = 0 := by
  obtain ⟨he, hf⟩ := (isZero_iff b).mp h
  rw [valRat_eq, magnitude_of_subnormal he, hf]
  simp [fracRat]

/-- The test "value < 0" leaves the patterns whose value is their magnitude. -/
theorem valRat_of_not_lt0 {b : F64} (hn : isNaN b = false) (h : lt0 b = false) :
    valRat b = fracRat (magnitude b) := by
  cases hs : signBit b with
  | false => exact valRat_of_signBit_false hs
  | true =>
    have hz : isZero b = true := by simpa [lt0, hn, hs] using h
    obtain ⟨he, hf⟩ := (isZero_iff b).mp hz
    rw [valRat_of_isZero hz, magnitude_of_subnormal he, hf]
    simp [fracRat]

end Sys2Proof.Machine
end

section
/-! What round64 (spec/00_scope.md R18) does to a value that is at most an integer below `2 ^ 32`. -/

namespace Sys2Proof.Machine

/-! ### `rne` of a quotient by a power of two -/

theorem div_le_roundHalfEven (n d : ℕ) : n / 2 ^ d ≤ roundHalfEven n d := by
  unfold roundHalfEven
  dsimp only
  split_ifs <;> omega

/-- Rounding to an integer does not pass an integer bound. -/
theorem roundHalfEven_le {n d m : ℕ} (h : n ≤ m * 2 ^ d) : roundHalfEven n d ≤ m := by
  have hdiv : n / 2 ^ d ≤ m := Nat.div_le_of_le_mul (by rwa [mul_comm])
  have hrest : n / 2 ^ d = m → n % 2 ^ d = 0 := by
    intro heq
    have hsplit := Nat.div_add_mod n (2 ^ d)
    rw [heq, mul_comm] at hsplit
    omega
  have hd := Nat.two_pow_pos d
  unfold roundHalfEven
  dsimp only
  split_ifs <;> omega

/-! ### The pattern of `r × 2 ^ (j − 1074)` -/

/-- The rounded pattern of R18 stands for the rounded integer in its unit: also where the rounding carried into the
next binade (`r = 2 ^ 53`), or a subnormal value into the first normal one. -/
theorem magnitude_of_toNat_eq {b : F64} {j r : ℕ} (hb : b.toNat = j * 2 ^ 52 + r) (hs : signBit b = false)
    (hr : r ≤ 2 ^ 53) (hj : j = 0 ∨ 2 ^ 52 ≤ r) : magnitude b = ⟨r * 2 ^ j, 1074⟩ := by
  have hfields := (toNat_eq_fields hs).symm.trans hb
  have hf := fracField_lt b
  by_cases hsub : r < 2 ^ 52
  · have hj0 : j = 0 := by omega
    subst hj0
    have he : expField b = 0 := by omega
    rw [magnitude_of_subnormal he, pow_zero, mul_one, show fracField b = r by omega]
  by_cases hcarry : r = 2 ^ 53
  · rw [magnitude_of_normal (k := j + 1) (by omega), show fracField b = 0 by omega, hcarry]
    congr 1
    ring
  · rw [magnitude_of_normal (k := j) (by omega), show 2 ^ 52 + fracField b = r by omega]

/-! ### round64 -/

theorem round64_toNat_le (v : Frac) : (round64 v).toNat ≤ 0x7FF0000000000000 := by
  by_cases hv : v.num = 0
  · rw [round64, if_pos hv]
    decide
  · rw [round64_toNat hv]
    exact Nat.min_le_right ..

theorem signBit_round64 (v : Frac) : signBit (round64 v) = false :=
  (signBit_eq_false_iff _).mpr ((round64_toNat_le v).trans_lt (by norm_num))

theorem round64_eq_infBits_iff (v : Frac) : round64 v = infBits ↔ round64Rule (fracRat v) = 0x7FF0000000000000 := by
  rw [← roundingIsTheRule v, ← BitVec.toNat_inj]
  exact_mod_cast Iff.rfl

theorem ofInt_round64Rule (v : Frac) : BitVec.ofInt 64 (round64Rule (fracRat v)) = round64 v := by
  rw [← roundingIsTheRule v, BitVec.ofInt_natCast, BitVec.ofNat_toNat, BitVec.setWidth_eq]

/-- The significand that R18 rounds to: at most `2 ^ 53`, and at least `2 ^ 52` above the lowest binade. -/
theorem significand_bounds {n s : ℕ} (hn : n ≠ 0) (hs : 1074 ≤ s) :
    let j := Nat.log2 n + 1022 - s
    let r := roundHalfEven n (s - 1074 + j)
    r ≤ 2 ^ 53 ∧ (j = 0 ∨ 2 ^ 52 ≤ r) := by
  intro j r
  constructor
  · apply roundHalfEven_le
    calc n ≤ 2 ^ (Nat.log2 n + 1) := Nat.lt_log2_self.le
      _ ≤ 2 ^ (53 + (s - 1074 + j)) := Nat.pow_le_pow_right two_pos (by omega)
      _ = 2 ^ 53 * 2 ^ (s - 1074 + j) := pow_add ..
  · rcases Nat.eq_zero_or_pos j with h0 | hpos
    · exact .inl h0
    · refine .inr (le_trans ?_ (div_le_roundHalfEven n (s - 1074 + j)))
      rw [Nat.le_div_iff_mul_le (Nat.two_pow_pos _), ← pow_add, show 52 + (s - 1074 + j) = Nat.log2 n by omega]
      exact Nat.log2_self_le hn

/-- An integer bound below `2 ^ 32` is a multiple of every unit `2 ^ (j − 1074)` that R18 can choose below it, so the
rounded value does not pass it. -/
theorem significand_of_le {n s b : ℕ} (hn : n ≠ 0) (hs : 1074 ≤ s) (hb : b < 2 ^ 32) (h : n ≤ b * 2 ^ s) :
    let j := Nat.log2 n + 1022 - s
    j ≤ 1053 ∧ fracRat ⟨roundHalfEven n (s - 1074 + j) * 2 ^ j, 1074⟩ ≤ b := by
  intro j
  have hlog : Nat.log2 n < 32 + s := by
    rw [Nat.log2_lt hn, pow_add]
    exact h.trans_lt (Nat.mul_lt_mul_of_pos_right hb (Nat.two_pow_pos s))
  have hj : j ≤ 1053 := by omega
  have hr : roundHalfEven n (s - 1074 + j) ≤ b * 2 ^ (1074 - j) := by
    apply roundHalfEven_le
    rwa [mul_assoc, ← pow_add, show 1074 - j + (s - 1074 + j) = s by omega]
  have hunit : b * 2 ^ (1074 - j) * 2 ^ j = b * 2 ^ 1074 := by
    rw [mul_assoc, ← pow_add, Nat.sub_add_cancel (by omega)]
  rw [fracRat_le_natCast_iff, ← hunit]
  exact ⟨hj, Nat.mul_le_mul_right _ hr⟩

/-- Rounding does not pass an integer bound below `2 ^ 32`, and does not overflow below it. -/
theorem round64_of_le {v : Frac} {b : ℕ} (hb : b < 2 ^ 32) (h : fracRat v ≤ b) :
    round64 v ≠ infBits ∧ fracRat (magnitude (round64 v)) ≤ b := by
  by_cases hv : v.num = 0
  · rw [round64, if_pos hv, fracRat_le_natCast_iff]
    exact ⟨by decide, Nat.zero_le _⟩
  have hn : v.num * 2 ^ (1074 - v.exp) ≠ 0 := mul_ne_zero hv (pow_ne_zero _ two_ne_zero)
  have hs : 1074 ≤ max v.exp 1074 := le_max_right ..
  rw [fracRat_eq_over_max, div_le_iff₀ (by positivity)] at h
  obtain ⟨hr, hr'⟩ := significand_bounds hn hs
  obtain ⟨hj, hle⟩ := significand_of_le hn hs hb (by exact_mod_cast h)
  have htoNat := (round64_toNat hv).trans (Nat.min_eq_left (by omega))
  constructor
  · intro hinf
    rw [hinf, show infBits.toNat = 0x7FF0000000000000 from rfl] at htoNat
    omega
  · rwa [magnitude_of_toNat_eq htoNat (signBit_round64 v) hr hr']

theorem valRat_round64 (v : Frac) : valRat (round64 v) = fracRat (magnitude (round64 v)) :=
  valRat_of_signBit_false (signBit_round64 v)

end Sys2Proof.Machine
end

section
/-! SCALE, CLAMP01 and the compare count of DUTY (spec/41_duty_cycle_controller.md R150 to R152). -/

namespace Sys2Proof.Machine

/-! ### SCALE (R151) -/

theorem scale_of_exact {p : Params} (h : p.arith = .exact) (v : Frac) :
    scale p v = some (v.scaleNat p.periodPwm.toNat).floor := by
  rw [scale, h]

theorem scale_of_binary64 {p : Params} (h : p.arith = .binary64) (v : Frac) :
    scale p v =
      if round64 (v.scaleNat p.periodPwm.toNat) = infBits then none
      else some (magnitude (round64 (v.scaleNat p.periodPwm.toNat))).floor := by
  rw [scale, h]

theorem floor_le_of_fracRat_le {v : Frac} {n : ℕ} (h : fracRat v ≤ n) : v.floor ≤ n := by
  have hfloor : (v.floor : ℤ) ≤ ⌊(n : ℚ)⌋ := floor_fracRat v ▸ Int.floor_le_floor h
  simpa using hfloor

/-- The derived bound of R151. -/
theorem scale_le_period (p : Params) {v : Frac} (h : fracRat v ≤ 1) :
    ∃ n : ℕ, scale p v = some n ∧ n ≤ p.periodPwm.toNat := by
  have hproduct : fracRat (v.scaleNat p.periodPwm.toNat) ≤ p.periodPwm.toNat := by
    rw [fracRat_scaleNat]
    exact mul_le_of_le_one_left (Nat.cast_nonneg _) h
  cases ha : p.arith with
  | exact => exact ⟨_, scale_of_exact ha v, floor_le_of_fracRat_le hproduct⟩
  | binary64 =>
    obtain ⟨hfinite, hround⟩ := round64_of_le p.periodPwm.isLt hproduct
    exact ⟨_, (scale_of_binary64 ha v).trans (if_neg hfinite), floor_le_of_fracRat_le hround⟩

/-- Settles O46: in each mode SCALE is computed from the exact product, and its floor is the floor over the
rationals; a value in [0, 1] keeps the product below the period, an integer that rounding does not pass. -/
theorem scaleIsTheRule : Obligations.ScaleIsTheRule := by
  intro p v
  rw [← fracRat_scaleNat]
  refine ⟨fun ha => ⟨_, scale_of_exact ha v, (floor_fracRat _).symm⟩, fun ha => ?_, scale_le_period p⟩
  rw [scale_of_binary64 ha, ← round64_eq_infBits_iff, ofInt_round64Rule, valRat_round64, floor_fracRat]
  split
  case isTrue hinf => exact ⟨⟨fun _ => hinf, fun _ => rfl⟩, nofun⟩
  case isFalse hfin => exact ⟨⟨nofun, fun hinf => absurd hinf hfin⟩, fun n hn => by rw [Option.some.inj hn]⟩

/-! ### CLAMP01 (R150) -/

/-- The pattern of 1.0. -/
def oneBits : F64 := 0x3FF0000000000000#64

theorem valRat_oneBits : valRat oneBits = 1 := by
  have he : expField oneBits = 1023 := by decide
  have hf : fracField oneBits = 0 := by decide
  have hs : signBit oneBits = false := by decide
  rw [valRat, hs, he, hf]
  norm_num

theorem one_lt_fracRat_magnitude_iff {b : F64} (h : signBit b = false) :
    1 < fracRat (magnitude b) ↔ 0x3FF0000000000000 < b.toNat := by
  have hs : signBit oneBits = false := by decide
  rw [← valRat_oneBits, valRat_of_signBit_false hs, fracRat_magnitude_lt_iff hs h]
  rfl

theorem gt1_iff {b : F64} (h : isNaN b = false) :
    gt1 b = true ↔ signBit b = false ∧ 0x3FF0000000000000 < b.toNat := by
  rw [gt1, h, Bool.and_eq_true, Bool.and_eq_true, decide_eq_true_iff, Bool.not_eq_true', Bool.not_eq_true']
  exact and_congr_left' (and_iff_right rfl)

theorem gt1_iff_one_lt_valRat {b : F64} (h : isNaN b = false) : gt1 b = true ↔ 1 < valRat b := by
  rw [gt1_iff h]
  cases hs : signBit b with
  | false => simp [valRat_of_signBit_false hs, one_lt_fracRat_magnitude_iff hs]
  | true =>
    have hneg : valRat b ≤ 0 := by simp [valRat_eq, hs, fracRat_nonneg]
    simp [(hneg.trans zero_le_one).not_gt]

theorem gt1_iff_of_isInf {b : F64} (hn : isNaN b = false) (hi : isInf b = true) :
    gt1 b = true ↔ signBit b = false := by
  rw [gt1_iff hn, and_iff_left_iff_imp]
  intro hs
  rw [toNat_eq_fields hs, ((isInf_iff b).mp hi).1]
  omega

theorem isInf_eq_false_of_unclamped {d : F64} (hn : isNaN d = false) (hlt : lt0 d = false) (hgt : gt1 d = false) :
    isInf d = false := by
  refine eq_false_of_ne_true fun hi => ?_
  cases hs : signBit d with
  | false => simp [(gt1_iff_of_isInf hn hi).mpr hs] at hgt
  | true => simp [lt0, hn, hs, isZero, ((isInf_iff d).mp hi).1] at hlt

theorem fracRat_clamp01 {d : F64} (hn : isNaN d = false) : fracRat (clamp01 d) = clampRat d := by
  unfold clamp01 clampRat
  split
  case isTrue => simp [fracRat, Frac.zero]
  case isFalse hlt =>
    split
    case isTrue => simp [fracRat, Frac.one]
    case isFalse => exact (valRat_of_not_lt0 hn (eq_false_of_ne_true hlt)).symm

theorem clampRat_nonneg {d : F64} (hn : isNaN d = false) : 0 ≤ clampRat d :=
  fracRat_clamp01 hn ▸ fracRat_nonneg (clamp01 d)

theorem clampRat_le_one {d : F64} (hn : isNaN d = false) : clampRat d ≤ 1 := by
  unfold clampRat
  split
  case isTrue => exact zero_le_one
  case isFalse =>
    split
    case isTrue => exact le_rfl
    case isFalse hgt => exact not_lt.mp (mt (gt1_iff_one_lt_valRat hn).mpr hgt)

/-- The saturator answers the pattern of 0, that of 1, or its operand. -/
theorem clampRat_eq_valRat {d : F64} (hn : isNaN d = false) :
    ∃ b : F64, isNaN b = false ∧ isInf b = false ∧ valRat b = clampRat d := by
  unfold clampRat
  split
  case isTrue => exact ⟨0#64, by decide, by decide, valRat_of_isZero (by decide)⟩
  case isFalse hlt =>
    split
    case isTrue => exact ⟨oneBits, by decide, by decide, valRat_oneBits⟩
    case isFalse hgt =>
      exact ⟨d, hn, isInf_eq_false_of_unclamped hn (eq_false_of_ne_true hlt) (eq_false_of_ne_true hgt), rfl⟩

/-! ### The compare count -/

theorem countFitting_of_fits {p : Params} {v : Frac} {n : ℕ} (h : scale p v = some n) (hn : n < 2 ^ 32) :
    countFitting p v = some (BitVec.ofNat 32 n) := by
  simp only [countFitting, h, if_pos hn]

theorem countFitting_of_overflow {p : Params} {v : Frac} (h : scale p v = none) : countFitting p v = none := by
  simp [countFitting, h]

theorem countFitting_of_wide {p : Params} {v : Frac} {n : ℕ} (h : scale p v = some n) (hn : 2 ^ 32 ≤ n) :
    countFitting p v = none := by
  simp only [countFitting, h, if_neg hn.not_gt]

/-- R152: the count of DUTY loses nothing of SCALE, which its derived bound keeps below the width of the register. -/
theorem scale_clamp01 (p : Params) {d : F64} (hn : isNaN d = false) :
    scale p (clamp01 d) = some (dutyCount p d).toNat ∧ (dutyCount p d).toNat ≤ p.periodPwm.toNat := by
  obtain ⟨n, hscale, hle⟩ := scale_le_period p ((fracRat_clamp01 hn).trans_le (clampRat_le_one hn))
  have hfits : n < 2 ^ 32 := hle.trans_lt p.periodPwm.isLt
  have hcount : (dutyCount p d).toNat = n := by
    rw [dutyCount, countFitting_of_fits hscale hfits, Option.getD_some, BitVec.toNat_ofNat, Nat.mod_eq_of_lt hfits]
  rw [hcount]
  exact ⟨hscale, hle⟩

/-- Settles O47: the test above 1.0 and CLAMP01 by value, and the bound of SCALE at the clamped duty. -/
theorem dutyCountIsScaledAndBounded : Obligations.DutyCountIsScaledAndBounded := fun p _ hn =>
  ⟨⟨fun _ => gt1_iff_one_lt_valRat hn, gt1_iff_of_isInf hn⟩, fracRat_clamp01 hn, clampRat_nonneg hn,
    clampRat_le_one hn, clampRat_eq_valRat hn, scale_clamp01 p hn⟩

end Sys2Proof.Machine
end

section
/-! The gain stage and the checks of TORQUE (spec/41_duty_cycle_controller.md R153, R154, R156). -/

namespace Sys2Proof.Machine

/-! ### The gain stage (R154) -/

theorem torqueScratch_of_isInf (p : Params) {t : F64} (h : isInf t = true) : torqueScratch p t = infBits := by
  simp [torqueScratch, torqueMag, h]

theorem torqueScratch_of_finite (p : Params) {t : F64} (h : isInf t = false) :
    torqueScratch p t = round64 ((magnitude p.torqueGain).mul (magnitude t)) := by
  simp [torqueScratch, torqueMag, h]

theorem torqueDuty_of_isInf (p : Params) {t : F64} (h : isInf t = true) : torqueDuty p t = .inf := by
  cases ha : p.arith <;> simp [torqueDuty, ha, torqueScratch_of_isInf p h, torqueMag, h]

theorem torqueDuty_of_scratch_inf {p : Params} (ha : p.arith = .binary64) {t : F64}
    (h : torqueScratch p t = infBits) : torqueDuty p t = .inf := by
  simp [torqueDuty, ha, h]

theorem torqueDuty_of_scratch_finite {p : Params} (ha : p.arith = .binary64) {t : F64}
    (h : torqueScratch p t ≠ infBits) : torqueDuty p t = .fin (magnitude (torqueScratch p t)) := by
  simp [torqueDuty, ha, h]

theorem torqueDuty_of_exact {p : Params} (ha : p.arith = .exact) {t : F64} (h : isInf t = false) :
    torqueDuty p t = .fin ((magnitude p.torqueGain).mul (magnitude t)) := by
  simp [torqueDuty, ha, torqueMag, h]

/-- The gain of a well-formed record is above zero (R9), so its magnitude is its value. -/
theorem valRat_torqueGain {p : Params} (h : p.wellFormed = true) :
    valRat p.torqueGain = fracRat (magnitude p.torqueGain) := by
  apply valRat_of_signBit_false
  simp only [Params.wellFormed, gainOk, Bool.and_eq_true, Bool.not_eq_true'] at h
  obtain ⟨⟨⟨⟨hsign, -⟩, -⟩, -⟩, -⟩ := h
  exact hsign

/-- `G × mag` (R154). -/
theorem fracRat_gain_mul {p : Params} (h : p.wellFormed = true) (t : F64) :
    fracRat ((magnitude p.torqueGain).mul (magnitude t)) = valRat p.torqueGain * |valRat t| := by
  rw [fracRat_mul, valRat_torqueGain h, abs_valRat]

/-! ### The sign of the torque (R153) -/

theorem torqueMag_negF64 (t : F64) : torqueMag (negF64 t) = torqueMag t := by
  rw [torqueMag, isInf_negF64, magnitude_negF64, torqueMag]

theorem torqueScratch_negF64 (p : Params) (t : F64) : torqueScratch p (negF64 t) = torqueScratch p t := by
  rw [torqueScratch, torqueMag_negF64, torqueScratch]

theorem torqueDuty_negF64 (p : Params) (t : F64) : torqueDuty p (negF64 t) = torqueDuty p t := by
  rw [torqueDuty, torqueScratch_negF64, torqueMag_negF64, torqueDuty]

theorem torqueCount_negF64 (p : Params) (t : F64) : torqueCount p (negF64 t) = torqueCount p t := by
  rw [torqueCount, torqueDuty_negF64, torqueCount]

/-- Settles O51: the scratch value is the rounding of the exact product (`roundingIsTheRule`), which has a clear sign,
so that its magnitude is its value; and the operand enters by its magnitude only. -/
theorem gainStageIsTheRule : Obligations.GainStageIsTheRule := by
  intro p t hp _
  refine ⟨fun hi => ⟨torqueScratch_of_isInf p hi, torqueDuty_of_isInf p hi⟩, fun hi => ⟨?scratch,
    fun ha hinf => torqueDuty_of_scratch_inf ha hinf,
    fun ha hfin => ⟨_, torqueDuty_of_scratch_finite ha hfin, ?binary64⟩,
    fun ha => ⟨_, torqueDuty_of_exact ha hi, fracRat_gain_mul hp t⟩⟩,
    torqueScratch_negF64 p t, torqueCount_negF64 p t⟩
  case scratch => rw [torqueScratch_of_finite p hi, roundingIsTheRule, fracRat_gain_mul hp]
  case binary64 => rw [torqueScratch_of_finite p hi, valRat_round64]

/-! ### The compare count without the clamp (R156) -/

theorem torqueCount_of_inf {p : Params} (hc : p.torqueClamp = false) {t : F64} (h : torqueDuty p t = .inf) :
    torqueCount p t = none := by
  simp [torqueCount, hc, h]

theorem torqueCount_of_fin {p : Params} (hc : p.torqueClamp = false) {t : F64} {x : Frac}
    (h : torqueDuty p t = .fin x) : torqueCount p t = countFitting p x := by
  simp [torqueCount, hc, h]

/-! ### The plan of TORQUE and its acceptance -/

theorem torquePlan_of_range {s : State} {ch : BitVec 4} {m : Pair} {t : F64} (hi : s.initDone = true)
    (hm : pairOf ch = some m) (hn : isNaN t = false) (hc : torqueCount s.cfg t = none) :
    torquePlan ch t s = .error .range := by
  simp [torquePlan, hi, hm, hn, hc]

theorem torquePlan_of_count {s : State} {ch : BitVec 4} {m : Pair} {t : F64} {n : Word} (hi : s.initDone = true)
    (hm : pairOf ch = some m) (hn : isNaN t = false) (hc : torqueCount s.cfg t = some n) :
    torquePlan ch t s = .ok (torqueOps s.cfg m t n) := by
  simp [torquePlan, hi, hm, hn, hc]

theorem controlField_commandWord (op ch : BitVec 4) (aux : BitVec 8) (opd : BitVec 64) :
    controlField (commandWord op ch aux opd) = op ++ ch ++ aux := by
  show (op ++ ch ++ aux ++ opd : BitVec (4 + 4 + 8 + 64)).extractLsb' 64 16 = op ++ ch ++ aux
  rw [BitVec.extractLsb'_append_eq_of_le le_rfl]
  exact BitVec.extractLsb'_eq_self

/-- Settles O28: each clause is a value of the compare count, and that decides the range check; a passed check queues
the list of R153, whose last entry writes the count. -/
theorem torqueRangeFaults : Obligations.TorqueRangeFaults := by
  intro s ch m t hready hinit hpair hnan hclamp
  rw [exec_eq_accept, controlWord, encode, controlField_commandWord]
  constructor
  · intro hout
    have hnone : torqueCount s.cfg t = none := by
      rcases hout with hinf | ⟨x, hx, hoverflow | ⟨n, hscale, hwide⟩⟩
      · exact torqueCount_of_inf hclamp hinf
      · exact (torqueCount_of_fin hclamp hx).trans (countFitting_of_overflow hoverflow)
      · exact (torqueCount_of_fin hclamp hx).trans (countFitting_of_wide hscale hwide)
    rw [planOf, torquePlan_of_range hinit hpair hnan hnone, accept_error _ _ _ hready]
    rfl
  · intro x n hx hscale hfits
    have hsome : torqueCount s.cfg t = some (BitVec.ofNat 32 n) :=
      (torqueCount_of_fin hclamp hx).trans (countFitting_of_fits hscale hfits)
    rw [planOf, torquePlan_of_count hinit hpair hnan hsome, accept_ok _ _ _ hready]
    exact ⟨_, _, rfl⟩

end Sys2Proof.Machine
end

section
/-! The sign split and the pin levels of a pair (spec/00_scope.md R17; spec/42_direction_controller.md R170, R172). -/

namespace Sys2Proof.Machine

/-! ### The pin levels (R172) -/

theorem pins_forward (p : Params) (m : Pair) : pins p m .forward = (!p.swap.get m, p.swap.get m) := by
  unfold pins
  cases p.swap.get m <;> rfl

theorem pins_reverse (p : Params) (m : Pair) : pins p m .reverse = (p.swap.get m, !p.swap.get m) := by
  unfold pins
  cases p.swap.get m <;> rfl

/-- Settles O52: the levels are SWAP and its complement in one of the two orders, so exactly one of them is 1. -/
theorem pinTable : Obligations.PinTable := by
  intro p m
  refine ⟨fun hswap => ?straight, fun hswap => ?swapped, fun dir => ?exactlyOne⟩
  case straight => simp [pins_forward, pins_reverse, hswap]
  case swapped => simp [pins_forward, pins_reverse, hswap]
  case exactlyOne =>
    cases dir with
    | forward => rw [pins_forward, Bool.not_xor_self]
    | reverse => rw [pins_reverse, Bool.xor_not_self]

/-! ### Negation and the fields (R17) -/

theorem signBit_negF64 (b : F64) : signBit (negF64 b) = !signBit b := by
  rw [signBit, negF64, BitVec.getLsbD_xor, show BitVec.getLsbD 0x8000000000000000#64 63 = true by decide,
    Bool.xor_true, signBit]

theorem isInf_iff_expField {b : F64} (hn : isNaN b = false) : isInf b = true ↔ b.extractLsb' 52 11 = 2047#11 := by
  have hfrac (he : expField b = 2047) : fracField b = 0 := by simpa [isNaN, he] using hn
  rw [isInf_iff, and_iff_left_of_imp hfrac, BitVec.toNat_eq]
  rfl

theorem isZero_iff_fields (b : F64) :
    isZero b = true ↔ b.extractLsb' 52 11 = 0#11 ∧ b.extractLsb' 0 52 = 0#52 := by
  rw [isZero_iff, BitVec.toNat_eq, BitVec.toNat_eq]
  rfl

theorem isZero_of_isInf {b : F64} (h : isInf b = true) : isZero b = false := by
  simp [isZero, ((isInf_iff b).mp h).1]

/-! ### The test "value < 0" (R17) -/

theorem lt0_iff {b : F64} (hn : isNaN b = false) : lt0 b = true ↔ signBit b = true ∧ isZero b = false := by
  simp [lt0, hn]

theorem lt0_of_signBit_false {b : F64} (h : signBit b = false) : lt0 b = false := by simp [lt0, h]
theorem lt0_of_isZero {b : F64} (h : isZero b = true) : lt0 b = false := by simp [lt0, h]

theorem lt0_iff_of_isInf {b : F64} (hn : isNaN b = false) (hi : isInf b = true) :
    lt0 b = true ↔ signBit b = true := by
  rw [lt0_iff hn, and_iff_left (isZero_of_isInf hi)]

theorem magnitude_num_eq_zero_iff (b : F64) : (magnitude b).num = 0 ↔ isZero b = true := by
  rw [isZero_iff]
  cases h : expField b with
  | zero => simp [magnitude_of_subnormal h]
  | succ k => simp [magnitude_of_normal h]

/-- A pattern that is no zero has a magnitude above zero, so the sign bit decides; both zeros have the value 0. -/
theorem lt0_iff_valRat_neg {b : F64} (hn : isNaN b = false) : lt0 b = true ↔ valRat b < 0 := by
  cases h : lt0 b with
  | false =>
    have hnonneg : 0 ≤ valRat b := valRat_of_not_lt0 hn h ▸ fracRat_nonneg (magnitude b)
    simp [hnonneg]
  | true =>
    obtain ⟨hs, hz⟩ := (lt0_iff hn).mp h
    have hne : fracRat (magnitude b) ≠ 0 := by simp [fracRat_eq_zero_iff, magnitude_num_eq_zero_iff, hz]
    have hpos : 0 < fracRat (magnitude b) := (fracRat_nonneg _).lt_of_ne' hne
    simp [valRat_eq, hs, hpos]

/-! ### The two halves of the split (R170) -/

theorem signDirection_of_lt0 {v : F64} (h : lt0 v = true) : signDirection v = .reverse := if_pos h
theorem signMagnitude_of_lt0 {v : F64} (h : lt0 v = true) : signMagnitude v = negF64 v := if_pos h

theorem signDirection_of_not_lt0 {v : F64} (h : lt0 v = false) : signDirection v = .forward := by
  rw [signDirection, h, if_neg Bool.false_ne_true]

theorem signMagnitude_of_not_lt0 {v : F64} (h : lt0 v = false) : signMagnitude v = v := by
  rw [signMagnitude, h, if_neg Bool.false_ne_true]

theorem expField_signMagnitude (v : F64) : expField (signMagnitude v) = expField v := by
  unfold signMagnitude
  split
  case isTrue => exact expField_negF64 v
  case isFalse => rfl

theorem fracField_signMagnitude (v : F64) : fracField (signMagnitude v) = fracField v := by
  unfold signMagnitude
  split
  case isTrue => exact fracField_negF64 v
  case isFalse => rfl

theorem isNaN_signMagnitude (v : F64) : isNaN (signMagnitude v) = isNaN v := by
  rw [isNaN, expField_signMagnitude, fracField_signMagnitude, isNaN]

theorem isInf_signMagnitude (v : F64) : isInf (signMagnitude v) = isInf v := by
  rw [isInf, expField_signMagnitude, fracField_signMagnitude, isInf]

theorem magnitude_signMagnitude (v : F64) : magnitude (signMagnitude v) = magnitude v := by
  rw [magnitude, expField_signMagnitude, fracField_signMagnitude, magnitude]

theorem lt0_signMagnitude {v : F64} (hn : isNaN v = false) : lt0 (signMagnitude v) = false := by
  cases h : lt0 v with
  | false => rwa [signMagnitude_of_not_lt0 h]
  | true =>
    obtain ⟨hs, -⟩ := (lt0_iff hn).mp h
    rw [signMagnitude_of_lt0 h]
    exact lt0_of_signBit_false (by rw [signBit_negF64, hs, Bool.not_true])

theorem valRat_signMagnitude {v : F64} (hn : isNaN v = false) : valRat (signMagnitude v) = |valRat v| :=
  calc valRat (signMagnitude v) = fracRat (magnitude (signMagnitude v)) :=
        valRat_of_not_lt0 ((isNaN_signMagnitude v).trans hn) (lt0_signMagnitude hn)
    _ = |valRat v| := by rw [magnitude_signMagnitude, abs_valRat]

theorem eq_infBits_of_not_lt0 {b : F64} (hn : isNaN b = false) (hi : isInf b = true) (h : lt0 b = false) :
    b = infBits := by
  have hs : signBit b = false := eq_false_of_ne_true fun hs => by simp [(lt0_iff_of_isInf hn hi).mpr hs] at h
  obtain ⟨he, hf⟩ := (isInf_iff b).mp hi
  apply BitVec.eq_of_toNat_eq
  rw [toNat_eq_fields hs, he, hf]
  rfl

theorem signMagnitude_of_isInf {v : F64} (hn : isNaN v = false) (hi : isInf v = true) : signMagnitude v = infBits :=
  eq_infBits_of_not_lt0 ((isNaN_signMagnitude v).trans hn) ((isInf_signMagnitude v).trans hi) (lt0_signMagnitude hn)

/-- Settles O53: the split changes the sign bit alone and clears it where the value is below zero, so the magnitude is
a pattern of the same fields that is not below zero; every clause about its value follows from that. -/
theorem signSplit : Obligations.SignSplit := by
  intro v hn
  have forward (h : lt0 v = false) : signDirection v = .forward ∧ signMagnitude v = v :=
    ⟨signDirection_of_not_lt0 h, signMagnitude_of_not_lt0 h⟩
  have reverse (h : lt0 v = true) : signDirection v = .reverse ∧ signMagnitude v = negF64 v :=
    ⟨signDirection_of_lt0 h, signMagnitude_of_lt0 h⟩
  exact ⟨⟨isInf_iff_expField hn, isZero_iff_fields v⟩,
    ⟨fun _ => lt0_iff_valRat_neg hn, lt0_iff_of_isInf hn⟩,
    reverse, forward, lt0_signMagnitude hn, (isNaN_signMagnitude v).trans hn,
    fun _ => valRat_signMagnitude hn, fun hz => forward (lt0_of_isZero hz), signMagnitude_of_isInf hn⟩

end Sys2Proof.Machine
end

section
/-! The precondition faults that acceptance raises (spec/60_exceptions.md R222 to R227), each from the first check of
R115 that fails, and what an accepted command does instead. -/

namespace Sys2Proof.Machine

/-! ### A command that fails a check, and one that passes them all -/

theorem exec_of_planOf_error {i : Instr} {s : State} {c : Cause} {cw : Half} (hready : s.cmdReady = true)
    (hcw : controlWord i = cw) (hplan : planOf i s = .error c) :
    exec i s = .next { s with fault := true, cause := c.code, fcmd := cw } := by
  rw [exec_eq_accept, hplan, accept_error _ _ _ hready, hcw, raiseFault]

theorem exec_of_planOf_ok {i : Instr} {s : State} {ops : List MicroOp} (hready : s.cmdReady = true)
    (hplan : planOf i s = .ok ops) : exec i s = .next { s with q := ops } := by
  rw [exec_eq_accept, hplan, accept_ok _ _ _ hready]

/-! ### The control word that a fault records (R231) -/

theorem controlWord_timebase (ckd : BitVec 2) (mode : BitVec 3) (prescaler period : Word) :
    controlWord (.timebase ckd mode prescaler period) = 2#4 ++ 0#4 ++ (0#2 ++ ckd ++ 0#1 ++ mode) :=
  controlField_commandWord ..

theorem controlWord_chpwm (ch : BitVec 4) (x : Word) : controlWord (.chpwm ch x) = 3#4 ++ ch ++ 0#8 :=
  controlField_commandWord ..

theorem controlWord_sign (ch : BitVec 4) (v : F64) : controlWord (.sign ch v) = 5#4 ++ ch ++ 0#8 :=
  controlField_commandWord ..

theorem controlWord_duty (ch : BitVec 4) (d : F64) : controlWord (.duty ch d) = 6#4 ++ ch ++ 0#8 :=
  controlField_commandWord ..

theorem controlWord_torque (ch : BitVec 4) (t : F64) : controlWord (.torque ch t) = 7#4 ++ ch ++ 0#8 :=
  controlField_commandWord ..

/-! ### ILLEGAL: the words that the decoder refuses (R110, R222) -/

theorem decode_of_undefinedOpcode {w : Cmd} (h : (opField w).toNat = 0 ∨ 8 ≤ (opField w).toNat) :
    decode w = .error .undefinedOpcode := by
  unfold decode
  split
  case h_8 => rfl
  all_goals omega

theorem decodeN_of_reserved {w : Cmd} (i : Instr) (h : chField w ≠ 0#4 ∨ auxField w ≠ 0#8 ∨ opdField w ≠ 0#64) :
    decodeN w i = .error .reservedField := by
  rcases h with hch | haux | hopd
  · simp [decodeN, ifReservedZero, hch]
  · simp [decodeN, ifReservedZero, haux]
  · simp [decodeN, ifReservedZero, hopd]

/-- `aux[3]` is bit 67 of the word and `aux[7:6]` its bits 71 and 70 (R100). -/
theorem decodeT_of_reserved {w : Cmd}
    (h : chField w ≠ 0#4 ∨ w.getLsbD 67 = true ∨ w.extractLsb' 70 2 ≠ 0#2) : decodeT w = .error .reservedField := by
  have bit : (auxField w).getLsbD 3 = w.getLsbD 67 := by simp [auxField]
  have bits : (auxField w).extractLsb' 6 2 = w.extractLsb' 70 2 := by
    ext k hk
    have hin : 6 + k < 8 := by omega
    simp [auxField, hin, ← Nat.add_assoc]
  rcases h with hch | hbit | hbits
  · simp [decodeT, ifReservedZero, hch]
  · simp [decodeT, ifReservedZero, bit, hbit]
  · simp [decodeT, ifReservedZero, bits, hbits]

theorem decodeC_of_reserved {w : Cmd} (h : auxField w ≠ 0#8 ∨ w.extractLsb' 32 32 ≠ 0#32) :
    decodeC w = .error .reservedField := by
  have high : (opdField w).extractLsb' 32 32 = w.extractLsb' 32 32 :=
    BitVec.extractLsb'_extractLsb'_of_le (le_refl 64)
  rcases h with haux | hhigh
  · simp [decodeC, ifReservedZero, haux]
  · simp [decodeC, ifReservedZero, high, hhigh]

theorem decodeF_of_reserved {w : Cmd} (i : Instr) (h : auxField w ≠ 0#8) : decodeF w i = .error .reservedField := by
  simp [decodeF, ifReservedZero, h]

/-- `illegalWord` in the decoder's own fields. -/
theorem illegalWord_iff (w : Cmd) : illegalWord w ↔
    (opField w).toNat = 0 ∨ 8 ≤ (opField w).toNat
      ∨ (((opField w).toNat = 1 ∨ (opField w).toNat = 4) ∧ (chField w ≠ 0#4 ∨ auxField w ≠ 0#8 ∨ opdField w ≠ 0#64))
      ∨ ((opField w).toNat = 2 ∧ (chField w ≠ 0#4 ∨ w.getLsbD 67 = true ∨ w.extractLsb' 70 2 ≠ 0#2))
      ∨ ((opField w).toNat = 3 ∧ (auxField w ≠ 0#8 ∨ w.extractLsb' 32 32 ≠ 0#32))
      ∨ (((opField w).toNat = 5 ∨ (opField w).toNat = 6 ∨ (opField w).toNat = 7) ∧ auxField w ≠ 0#8) := Iff.rfl

/-- The two halves of R110: no row of the opcode table applies, or the format of the row refuses a reserved field. -/
theorem decode_of_illegalWord {w : Cmd} (h : illegalWord w) : ∃ e : DecodeError, decode w = .error e := by
  rcases (illegalWord_iff w).mp h with
    hop | hop | ⟨hop | hop, hres⟩ | ⟨hop, hres⟩ | ⟨hop, hres⟩ | ⟨hop | hop | hop, hres⟩
  · exact ⟨_, decode_of_undefinedOpcode (.inl hop)⟩
  · exact ⟨_, decode_of_undefinedOpcode (.inr hop)⟩
  all_goals rw [decode, hop]
  · exact ⟨_, decodeN_of_reserved _ hres⟩
  · exact ⟨_, decodeN_of_reserved _ hres⟩
  · exact ⟨_, decodeT_of_reserved hres⟩
  · exact ⟨_, decodeC_of_reserved hres⟩
  · exact ⟨_, decodeF_of_reserved _ hres⟩
  · exact ⟨_, decodeF_of_reserved _ hres⟩
  · exact ⟨_, decodeF_of_reserved _ hres⟩

theorem offerCommand_of_decode_error {w : Cmd} {e : DecodeError} {s : State} (h : decode w = .error e) :
    offerCommand w s = accept (controlField w) (.error .illegal) s := by
  simp only [offerCommand, h]

/-- Settles O23: no row of the opcode table takes an illegal word, and its offer has cause ILLEGAL. -/
theorem illegalWordFaults : Obligations.IllegalWordFaults := by
  intro s w hready hillegal
  obtain ⟨e, he⟩ := decode_of_illegalWord hillegal
  rw [act, offerCommand_of_decode_error he, accept_error _ _ _ hready]
  rfl

/-! ### The checks that SIGN, DUTY and TORQUE share (R115 steps 3, 6, 7) -/

/-- The shared checks on what the channel field names; `rest` is what the command does once they have passed. -/
def controlChecks {α : Type} (target : Option α) (v : F64) (s : State)
    (rest : α → Except Cause (List MicroOp)) : Except Cause (List MicroOp) :=
  match target with
  | none => .error .badChannel
  | some m => if s.initDone = false then .error .notInit else if isNaN v = true then .error .nan else rest m

theorem signPlan_eq_controlChecks (ch : BitVec 4) (v : F64) (s : State) :
    signPlan ch v s = controlChecks (pairOf ch) v s fun m => .ok (signOps s.cfg m v) := by
  cases h : pairOf ch <;> simp [signPlan, controlChecks, h]

theorem dutyPlan_eq_controlChecks (ch : BitVec 4) (d : F64) (s : State) :
    dutyPlan ch d s = controlChecks (channelOf ch) d s fun c => .ok (dutyOps s.cfg c d) := by
  cases h : channelOf ch <;> simp [dutyPlan, controlChecks, h]

theorem torquePlan_eq_controlChecks (ch : BitVec 4) (t : F64) (s : State) :
    torquePlan ch t s = controlChecks (pairOf ch) t s fun m =>
      (torqueCount s.cfg t).elim (.error .range) fun n => .ok (torqueOps s.cfg m t n) := by
  cases h : pairOf ch <;> cases hc : torqueCount s.cfg t <;> simp [torquePlan, controlChecks, h, hc]

section
variable {α : Type} {target : Option α} {v : F64} {s : State}

theorem controlChecks_of_badChannel (ht : target = none) (rest : α → Except Cause (List MicroOp)) :
    controlChecks target v s rest = .error .badChannel := by
  simp [controlChecks, ht]

theorem controlChecks_of_notInit (ht : ∃ m, target = some m) (hi : s.initDone = false)
    (rest : α → Except Cause (List MicroOp)) : controlChecks target v s rest = .error .notInit := by
  obtain ⟨m, rfl⟩ := ht
  simp [controlChecks, hi]

theorem controlChecks_of_nan (ht : ∃ m, target = some m) (hi : s.initDone = true) (hn : isNaN v = true)
    (rest : α → Except Cause (List MicroOp)) : controlChecks target v s rest = .error .nan := by
  obtain ⟨m, rfl⟩ := ht
  simp [controlChecks, hi, hn]

end

section
variable {s : State} {ch : BitVec 4} {v : F64} {c : Cause} (hready : s.cmdReady = true)
include hready

theorem exec_sign_of_checks (h : ∀ rest, controlChecks (pairOf ch) v s rest = .error c) :
    exec (.sign ch v) s = .next { s with fault := true, cause := c.code, fcmd := 5#4 ++ ch ++ 0#8 } :=
  exec_of_planOf_error hready (controlWord_sign ch v) ((signPlan_eq_controlChecks ch v s).trans (h _))

theorem exec_duty_of_checks (h : ∀ rest, controlChecks (channelOf ch) v s rest = .error c) :
    exec (.duty ch v) s = .next { s with fault := true, cause := c.code, fcmd := 6#4 ++ ch ++ 0#8 } :=
  exec_of_planOf_error hready (controlWord_duty ch v) ((dutyPlan_eq_controlChecks ch v s).trans (h _))

theorem exec_torque_of_checks (h : ∀ rest, controlChecks (pairOf ch) v s rest = .error c) :
    exec (.torque ch v) s = .next { s with fault := true, cause := c.code, fcmd := 7#4 ++ ch ++ 0#8 } :=
  exec_of_planOf_error hready (controlWord_torque ch v) ((torquePlan_eq_controlChecks ch v s).trans (h _))

end

/-! ### BAD_CHANNEL (R223) -/

theorem isSome_channelOf (ch : BitVec 4) : (channelOf ch).isSome = channelInRange ch := by
  revert ch
  decide

theorem isSome_pairOf (ch : BitVec 4) : (pairOf ch).isSome = pairInRange ch := by
  revert ch
  decide

theorem channelOf_eq_none {ch : BitVec 4} (h : channelInRange ch = false) : channelOf ch = none := by
  simpa [h] using isSome_channelOf ch

theorem pairOf_eq_none {ch : BitVec 4} (h : pairInRange ch = false) : pairOf ch = none := by
  simpa [h] using isSome_pairOf ch

theorem exists_channelOf {ch : BitVec 4} (h : channelInRange ch = true) : ∃ c, channelOf ch = some c := by
  rwa [← Option.isSome_iff_exists, isSome_channelOf]

theorem exists_pairOf {ch : BitVec 4} (h : pairInRange ch = true) : ∃ m, pairOf ch = some m := by
  rwa [← Option.isSome_iff_exists, isSome_pairOf]

theorem chpwmPlan_of_badChannel {ch : BitVec 4} (x : Word) (h : channelOf ch = none) :
    chpwmPlan ch x = .error .badChannel := by
  simp [chpwmPlan, h]

/-- Settles O24: a channel outside the range names nothing, and that is the first check of each of the four commands. -/
theorem badChannelFaults : Obligations.BadChannelFaults := by
  intro s ch hready
  constructor
  · intro hout
    have hnone : channelOf ch = none := channelOf_eq_none hout
    exact ⟨fun x => exec_of_planOf_error hready (controlWord_chpwm ch x) (chpwmPlan_of_badChannel x hnone),
      fun _ => exec_duty_of_checks hready (controlChecks_of_badChannel hnone)⟩
  · intro hout
    have hnone : pairOf ch = none := pairOf_eq_none hout
    exact ⟨fun _ => exec_sign_of_checks hready (controlChecks_of_badChannel hnone),
      fun _ => exec_torque_of_checks hready (controlChecks_of_badChannel hnone)⟩

/-! ### OPERAND (R224) -/

theorem isSome_modeBits (mode : BitVec 3) : (modeBits mode).isSome = modeInRange mode := by
  revert mode
  decide

theorem timebasePlan_of_badMode {ckd : BitVec 2} {mode : BitVec 3} (prescaler period : Word)
    (h : modeBits mode = none) : timebasePlan ckd mode prescaler period = .error .operand := by
  simp [timebasePlan, h]

theorem timebasePlan_of_badDivision (mode : BitVec 3) (prescaler period : Word) :
    timebasePlan 3#2 mode prescaler period = .error .operand := by
  cases h : modeBits mode <;> simp [timebasePlan, ckdBits, h]

theorem timebasePlan_of_operands {ckd : BitVec 2} {mode bits : BitVec 3} (prescaler period : Word)
    (hmode : modeBits mode = some bits) (hckd : ckd ≠ 3#2) :
    timebasePlan ckd mode prescaler period = .ok (timebaseOps ckd bits prescaler period) := by
  simp [timebasePlan, ckdBits, hmode, hckd]

/-- Settles O25: MODEBITS has no value above mode 4 and the clock division none at 3; the plan asks nothing else. -/
theorem badTimebaseOperandFaults : Obligations.BadTimebaseOperandFaults := by
  intro s ckd mode hready
  constructor
  · intro hbad prescaler period
    have hplan : timebasePlan ckd mode prescaler period = .error .operand := by
      rcases hbad with hmode | rfl
      · have hnone : modeBits mode = none := by
          simpa [modeInRange, hmode.not_ge] using isSome_modeBits mode
        exact timebasePlan_of_badMode prescaler period hnone
      · exact timebasePlan_of_badDivision mode prescaler period
    exact exec_of_planOf_error hready (controlWord_timebase ckd mode prescaler period) hplan
  · intro hmode hckd prescaler period
    obtain ⟨bits, hbits⟩ : ∃ bits, modeBits mode = some bits := by
      simpa [modeInRange, hmode, Option.isSome_iff_exists] using isSome_modeBits mode
    exact ⟨_, exec_of_planOf_ok hready (timebasePlan_of_operands prescaler period hbits hckd)⟩

/-! ### SEQ (R225) -/

theorem allConfigured_iff (s : State) : s.allConfigured = true ↔ ∀ c : Channel, s.cfgd.get c = true := by
  simp only [State.allConfigured, Bool.and_eq_true]
  constructor
  · rintro ⟨⟨⟨h1, h2⟩, h3⟩, h4⟩ c
    cases c with
    | c1 => exact h1
    | c2 => exact h2
    | c3 => exact h3
    | c4 => exact h4
  · exact fun h => ⟨⟨⟨h .c1, h .c2⟩, h .c3⟩, h .c4⟩

theorem initmotorPlan_of_initDone {s : State} (h : s.initDone = true) : initmotorPlan s = .error .seq := if_pos h

theorem startPlan_of_completed {s : State} (htb : s.tbDone = true) (hcfg : ∀ c : Channel, s.cfgd.get c = true) :
    startPlan s = .ok startOps := by
  simp [startPlan, htb, (allConfigured_iff s).mpr hcfg]

theorem startPlan_of_missing {s : State} (h : s.tbDone = false ∨ ∃ c : Channel, s.cfgd.get c = false) :
    startPlan s = .error .seq := by
  rcases h with htb | ⟨c, hc⟩
  · simp [startPlan, htb]
  · have hall : s.allConfigured = false :=
      eq_false_of_ne_true fun hall => by simp [(allConfigured_iff s).mp hall c] at hc
    simp [startPlan, hall]

/-- Settles O26: the plans of INITMOTOR and START test exactly the flags of R225; START does not look at INIT_DONE. -/
theorem sequenceFaults : Obligations.SequenceFaults := fun _ hready =>
  ⟨fun hinit => exec_of_planOf_error (i := .initmotor) hready rfl (initmotorPlan_of_initDone hinit),
    fun hmissing => exec_of_planOf_error (i := .start) hready rfl (startPlan_of_missing hmissing),
    fun htb hcfg => ⟨_, exec_of_planOf_ok (i := .start) hready (startPlan_of_completed htb hcfg)⟩⟩

/-! ### NOT_INIT and NAN (R226, R227) -/

theorem isNaN_iff_fields (b : F64) : isNaN b = true ↔ b.extractLsb' 52 11 = 2047#11 ∧ b.extractLsb' 0 52 ≠ 0#52 := by
  rw [Ne, BitVec.toNat_eq, BitVec.toNat_eq]
  simp [isNaN, expField, fracField]

/-- Settles O27: the NaN test is on the two fields; in range, the shared checks stop at INIT_DONE = 0, whatever the
operand, and after initialisation at a NaN. -/
theorem controlCommandFaults : Obligations.ControlCommandFaults := by
  refine ⟨isNaN_iff_fields, fun s ch v hready => ⟨fun hinit => ?before, fun hinit hnan => ?after⟩⟩
  case before =>
    exact ⟨fun hin =>
        ⟨exec_sign_of_checks hready (controlChecks_of_notInit (exists_pairOf hin) hinit),
          exec_torque_of_checks hready (controlChecks_of_notInit (exists_pairOf hin) hinit)⟩,
      fun hin => exec_duty_of_checks hready (controlChecks_of_notInit (exists_channelOf hin) hinit)⟩
  case after =>
    exact ⟨fun hin =>
        ⟨exec_sign_of_checks hready (controlChecks_of_nan (exists_pairOf hin) hinit hnan),
          exec_torque_of_checks hready (controlChecks_of_nan (exists_pairOf hin) hinit hnan)⟩,
      fun hin => exec_duty_of_checks hready (controlChecks_of_nan (exists_channelOf hin) hinit hnan)⟩

end Sys2Proof.Machine
end

section
/-! The read-modify-write of a register behind a writable mask (spec/20_memory.md R77, R85), and the fields of the
register afterwards (spec/10_state.md R31 to R36). -/

namespace Sys2Proof.Machine

/-! ### The word that a read-modify-write leaves -/

/-- The register after `M(off, clr, set)` where `mask` holds its writable bits. -/
def maskedUpdate {n : Nat} (mask clr set w : BitVec n) : BitVec n := ((w &&& ~~~clr) ||| set) &&& mask

theorem getLsbD_maskedUpdate {n : Nat} (mask clr set w : BitVec n) (i : Nat) :
    (maskedUpdate mask clr set w).getLsbD i =
      (((w.getLsbD i && !clr.getLsbD i) || set.getLsbD i) && mask.getLsbD i) := by
  by_cases hi : i < n
  · simp [maskedUpdate, hi]
  · simp [BitVec.getLsbD_of_ge _ _ (not_lt.mp hi)]

/-- A field of the updated register is the update of the field. -/
theorem extractLsb'_maskedUpdate {n : Nat} (mask clr set w : BitVec n) (k m : Nat) :
    (maskedUpdate mask clr set w).extractLsb' k m =
      maskedUpdate (mask.extractLsb' k m) (clr.extractLsb' k m) (set.extractLsb' k m) (w.extractLsb' k m) := by
  apply BitVec.eq_of_getLsbD_eq
  intro i hi
  simp only [getLsbD_maskedUpdate, BitVec.getLsbD_extractLsb', hi, decide_true, Bool.true_and]

/-- Two updates of one register are one, in which the later one prevails. -/
theorem maskedUpdate_maskedUpdate {n : Nat} (mask clr set clr' set' w : BitVec n) :
    maskedUpdate mask clr' set' (maskedUpdate mask clr set w) =
      maskedUpdate mask (clr ||| clr') ((set &&& ~~~clr') ||| set') w := by
  apply BitVec.eq_of_getLsbD_eq
  intro i hi
  simp only [getLsbD_maskedUpdate, BitVec.getLsbD_or, BitVec.getLsbD_and, BitVec.getLsbD_not, hi, decide_true,
    Bool.true_and]
  cases mask.getLsbD i <;> cases clr.getLsbD i <;> cases clr'.getLsbD i <;> simp [Bool.or_assoc]

/-- A writable field that the update does not name stays. -/
theorem maskedUpdate_keep {n : Nat} (w : BitVec n) : maskedUpdate (BitVec.allOnes n) 0#n 0#n w = w := by
  simp [maskedUpdate]

/-- A writable field that the update clears takes the bits it sets. -/
theorem maskedUpdate_replace {n : Nat} (set w : BitVec n) :
    maskedUpdate (BitVec.allOnes n) (BitVec.allOnes n) set w = set := by
  simp [maskedUpdate]

@[simp] theorem maskedUpdate_keep_three (w : BitVec 3) : maskedUpdate 7#3 0#3 0#3 w = w := maskedUpdate_keep w
@[simp] theorem maskedUpdate_keep_two (w : BitVec 2) : maskedUpdate 3#2 0#2 0#2 w = w := maskedUpdate_keep w
@[simp] theorem maskedUpdate_replace_three (set w : BitVec 3) : maskedUpdate 7#3 7#3 set w = set :=
  maskedUpdate_replace set w
@[simp] theorem maskedUpdate_replace_two (set w : BitVec 2) : maskedUpdate 3#2 3#2 set w = set :=
  maskedUpdate_replace set w

/-! ### The micro-operations W and M (R114), and M on the registers that the commands modify (R41) -/

/-- The state with the mode register that serves channel `c` replaced. -/
def State.setModeWord (s : State) : Channel → Word → State
  | .c1, w => { s with ccmr1 := w }
  | .c2, w => { s with ccmr1 := w }
  | .c3, w => { s with ccmr2 := w }
  | .c4, w => { s with ccmr2 := w }

theorem perform_w (r : TimerReg) (v : Word) (s : State) : perform (.w r v) s = regWrite r v s := rfl

/-- The read-modify-write (R85). -/
theorem perform_m (r : TimerReg) (clr set : Word) (s : State) :
    perform (.m r clr set) s = regWrite r ((regRead r s &&& ~~~clr) ||| set) s := rfl

theorem perform_m_ccer (clr set : Word) (s : State) :
    perform (.m .ccer clr set) s = { s with ccer := maskedUpdate ccerMask clr set s.ccer } := rfl

theorem perform_m_modeReg (c : Channel) (clr set : Word) (s : State) :
    perform (.m (modeReg c) clr set) s = s.setModeWord c (maskedUpdate ccmrMask clr set (s.modeWord c)) := by
  cases c <;> rfl

theorem modeWord_setModeWord (s : State) (c d : Channel) (w : Word) :
    (s.setModeWord c w).modeWord d = if modeReg d = modeReg c then w else s.modeWord d := by
  cases c <;> cases d <;> rfl

theorem modeWord_congr (s : State) {c d : Channel} (h : modeReg d = modeReg c) : s.modeWord d = s.modeWord c := by
  cases c <;> cases d <;> first | rfl | cases h

/-! ### The fields of CR1 after a modification (R31) -/

section
variable (clr set : Word) (s : State)

theorem cen_modify : (perform (.m .cr1 clr set) s).cen = ((s.cen && !clr.getLsbD 0) || set.getLsbD 0) :=
  (getLsbD_maskedUpdate ..).trans (Bool.and_true _)

theorem arpe_modify : (perform (.m .cr1 clr set) s).arpe = ((s.arpe && !clr.getLsbD 7) || set.getLsbD 7) :=
  (getLsbD_maskedUpdate ..).trans (Bool.and_true _)

theorem counterMode_modify : (perform (.m .cr1 clr set) s).counterMode =
    maskedUpdate 7#3 (clr.extractLsb' 4 3) (set.extractLsb' 4 3) s.counterMode :=
  extractLsb'_maskedUpdate ..

theorem ckd_modify : (perform (.m .cr1 clr set) s).ckd =
    maskedUpdate 3#2 (clr.extractLsb' 8 2) (set.extractLsb' 8 2) s.ckd :=
  extractLsb'_maskedUpdate ..

/-! ### The fields of a channel after a modification (R33, R36) -/

theorem ocMode_modify (c d : Channel) : (perform (.m (modeReg c) clr set) s).ocMode d =
    if modeReg d = modeReg c then
      maskedUpdate 7#3 (clr.extractLsb' (byteShift d + 4) 3) (set.extractLsb' (byteShift d + 4) 3)
        (s.ocMode d)
    else s.ocMode d := by
  have writable : ccmrMask.extractLsb' (byteShift d + 4) 3 = 7#3 := by cases d <;> rfl
  rw [perform_m_modeReg, State.ocMode, modeWord_setModeWord]
  split
  · rw [extractLsb'_maskedUpdate, writable, ← modeWord_congr s ‹_›, State.ocMode]
  · rfl

theorem ocPreload_modify (c d : Channel) : (perform (.m (modeReg c) clr set) s).ocPreload d =
    if modeReg d = modeReg c then
      (s.ocPreload d && !clr.getLsbD (byteShift d + 3)) || set.getLsbD (byteShift d + 3)
    else s.ocPreload d := by
  have writable : ccmrMask.getLsbD (byteShift d + 3) = true := by cases d <;> rfl
  rw [perform_m_modeReg, State.ocPreload, modeWord_setModeWord]
  split
  · rw [getLsbD_maskedUpdate, writable, Bool.and_true, ← modeWord_congr s ‹_›, State.ocPreload]
  · rfl

theorem ccEnable_modify (d : Channel) : (perform (.m .ccer clr set) s).ccEnable d =
    ((s.ccEnable d && !clr.getLsbD (slotShift d)) || set.getLsbD (slotShift d)) := by
  have writable : ccerMask.getLsbD (slotShift d) = true := by cases d <;> rfl
  rw [perform_m_ccer, State.ccEnable, getLsbD_maskedUpdate, writable, Bool.and_true, State.ccEnable]

theorem ccPolarity_modify (d : Channel) : (perform (.m .ccer clr set) s).ccPolarity d =
    ((s.ccPolarity d && !clr.getLsbD (slotShift d + 1)) || set.getLsbD (slotShift d + 1)) := by
  have writable : ccerMask.getLsbD (slotShift d + 1) = true := by cases d <;> rfl
  rw [perform_m_ccer, State.ccPolarity, getLsbD_maskedUpdate, writable, Bool.and_true, State.ccPolarity]

end

/-! ### CHPWM's modifications of a channel (R131) -/

theorem ocMode_selectMode (c d : Channel) (s : State) :
    (perform (.m (modeReg c) (7#32 <<< (byteShift c + 4)) (6#32 <<< (byteShift c + 4))) s).ocMode d =
      if d = c then 6#3 else s.ocMode d := by
  rw [ocMode_modify]
  cases c <;> cases d <;> simp [byteShift, modeReg]

theorem ocPreload_selectMode (c d : Channel) (s : State) :
    (perform (.m (modeReg c) (7#32 <<< (byteShift c + 4)) (6#32 <<< (byteShift c + 4))) s).ocPreload d =
      s.ocPreload d := by
  rw [ocPreload_modify]
  cases c <;> cases d <;> simp [byteShift]

theorem ocMode_enablePreload (c d : Channel) (s : State) :
    (perform (.m (modeReg c) 0#32 (1#32 <<< (byteShift c + 3))) s).ocMode d = s.ocMode d := by
  rw [ocMode_modify]
  cases c <;> cases d <;> simp [byteShift]

theorem ocPreload_enablePreload (c d : Channel) (s : State) :
    (perform (.m (modeReg c) 0#32 (1#32 <<< (byteShift c + 3))) s).ocPreload d =
      if d = c then true else s.ocPreload d := by
  rw [ocPreload_modify]
  cases c <;> cases d <;> simp [byteShift, modeReg]

theorem ccEnable_disable (c d : Channel) (s : State) :
    (perform (.m .ccer (1#32 <<< slotShift c) 0#32) s).ccEnable d = if d = c then false else s.ccEnable d := by
  rw [ccEnable_modify]
  cases c <;> cases d <;> simp [slotShift, Channel.index]

theorem ccPolarity_disable (c d : Channel) (s : State) :
    (perform (.m .ccer (1#32 <<< slotShift c) 0#32) s).ccPolarity d = s.ccPolarity d := by
  rw [ccPolarity_modify]
  cases c <;> cases d <;> simp [slotShift, Channel.index]

theorem ccPolarity_activeHigh (c d : Channel) (s : State) :
    (perform (.m .ccer (2#32 <<< slotShift c) (1#32 <<< slotShift c)) s).ccPolarity d =
      if d = c then false else s.ccPolarity d := by
  rw [ccPolarity_modify]
  cases c <;> cases d <;> simp [slotShift, Channel.index]

end Sys2Proof.Machine
end

section
/-! No move but RESET clears an enable (spec/40_timer_channel_programmer.md R137, spec/43_timebase_operation.md
R202). -/

namespace Sys2Proof.Machine

/-- CEN, ARPE and the compare preload enables that are 1 in `s` are 1 in `t`. -/
structure EnablesKept (s t : State) : Prop where
  cen : s.cen = true → t.cen = true
  arpe : s.arpe = true → t.arpe = true
  preload : ∀ c : Channel, s.ocPreload c = true → t.ocPreload c = true

/-- The enables are bits of these three registers. -/
theorem EnablesKept.of_registers {s t : State} (hcr1 : t.cr1 = s.cr1) (hccmr1 : t.ccmr1 = s.ccmr1)
    (hccmr2 : t.ccmr2 = s.ccmr2) : EnablesKept s t := by
  have word (c : Channel) : t.modeWord c = s.modeWord c := by cases c <;> assumption
  constructor
  · simp [State.cen, hcr1]
  · simp [State.arpe, hcr1]
  · simp [State.ocPreload, word]

/-! ### The micro-operations -/

/-- A register write leaves the registers of the enables unless it is a write to one of them. -/
theorem regWrite_keeps_enables {r : TimerReg} (h1 : r ≠ .cr1) (h2 : r ≠ .ccmr1) (h3 : r ≠ .ccmr2) (v : Word)
    (s : State) : EnablesKept s (regWrite r v s) := by
  cases r with
  | cr1 => exact absurd rfl h1
  | ccmr1 => exact absurd rfl h2
  | ccmr2 => exact absurd rfl h3
  | egr =>
    cases hv : v.getLsbD 0 with
    | false => rw [regWrite_egr_of_bit_clear s hv]; exact .of_registers rfl rfl rfl
    | true => rw [regWrite_egr_of_bit_set s hv]; exact .of_registers rfl rfl rfl
  | _ => exact .of_registers rfl rfl rfl

theorem modify_cr1_keeps_enables {clr : Word} (h0 : clr.getLsbD 0 = false) (h7 : clr.getLsbD 7 = false) (set : Word)
    (s : State) : EnablesKept s (perform (.m .cr1 clr set) s) where
  cen h := by rw [cen_modify, h, h0]; rfl
  arpe h := by rw [arpe_modify, h, h7]; rfl
  preload _ h := h

/-- Bits 3 and 11 are the preload enables of the two channels of a mode register (R33). -/
theorem modify_modeReg_keeps_enables (c : Channel) {clr : Word} (h3 : clr.getLsbD 3 = false)
    (h11 : clr.getLsbD 11 = false) (set : Word) (s : State) :
    EnablesKept s (perform (.m (modeReg c) clr set) s) where
  cen h := by rw [perform_m_modeReg]; cases c <;> exact h
  arpe h := by rw [perform_m_modeReg]; cases c <;> exact h
  preload d h := by
    have hclr : clr.getLsbD (byteShift d + 3) = false := by cases d <;> assumption
    rw [ocPreload_modify]
    split <;> simp [h, hclr]

theorem perform_keeps_enables {op : MicroOp} (h : keepsEnables op = true) (s : State) :
    EnablesKept s (perform op s) := by
  cases op with
  | w r v => exact regWrite_keeps_enables (by rintro rfl; cases h) (by rintro rfl; cases h) (by rintro rfl; cases h) v s
  | m r clr set =>
    cases r with
    | cr1 =>
      obtain ⟨h0, h7⟩ : clr.getLsbD 0 = false ∧ clr.getLsbD 7 = false := by simpa [keepsEnables] using h
      exact modify_cr1_keeps_enables h0 h7 set s
    | ccmr1 =>
      obtain ⟨h3, h11⟩ : clr.getLsbD 3 = false ∧ clr.getLsbD 11 = false := by simpa [keepsEnables] using h
      exact modify_modeReg_keeps_enables .c1 h3 h11 set s
    | ccmr2 =>
      obtain ⟨h3, h11⟩ : clr.getLsbD 3 = false ∧ clr.getLsbD 11 = false := by simpa [keepsEnables] using h
      exact modify_modeReg_keeps_enables .c3 h3 h11 set s
    | _ =>
      rw [perform_m]
      refine regWrite_keeps_enables ?_ ?_ ?_ _ s <;> nofun
  | k f => cases f <;> exact .of_registers rfl rfl rfl
  | _ => exact .of_registers rfl rfl rfl

/-! ### The command lists -/

theorem timebaseOps_keep_enables (ckd : BitVec 2) (bits : BitVec 3) (prescaler period : Word) :
    ∀ op ∈ timebaseOps ckd bits prescaler period, keepsEnables op = true := by
  simp [timebaseOps, keepsEnables]

theorem chpwmOps_keep_enables (c : Channel) (x : Word) : ∀ op ∈ chpwmOps c x, keepsEnables op = true := by
  cases c <;> simp [chpwmOps, keepsEnables, modeReg, byteShift]

theorem startOps_keep_enables : ∀ op ∈ startOps, keepsEnables op = true := by
  simp [startOps, keepsEnables]

theorem initmotorOps_keep_enables (p : Params) : ∀ op ∈ initmotorOps p, keepsEnables op = true := by
  simp only [initmotorOps, List.mem_append]
  rintro op ((((((h | h) | h) | h) | h) | h) | h)
  · revert op
    simp [keepsEnables]
  · exact timebaseOps_keep_enables _ _ _ _ op h
  · exact chpwmOps_keep_enables _ _ op h
  · exact chpwmOps_keep_enables _ _ op h
  · exact chpwmOps_keep_enables _ _ op h
  · exact chpwmOps_keep_enables _ _ op h
  · exact startOps_keep_enables op h

theorem planOf_keeps_enables {i : Instr} {s : State} {ops : List MicroOp} (h : planOf i s = .ok ops) :
    ∀ op ∈ ops, keepsEnables op = true := by
  rcases planOf_ok_cases h with ⟨-, -, rfl⟩ | ⟨ckd, -, prescaler, period, bits, -, -, -, rfl⟩ |
    ⟨-, c, x, -, -, rfl⟩ | ⟨-, -, -, rfl⟩ | ⟨-, m, v, -, -, -, -, rfl⟩ | ⟨-, c, d, -, -, -, -, rfl⟩ |
    ⟨-, m, t, n, -, -, -, -, -, rfl⟩
  · exact initmotorOps_keep_enables s.cfg
  · exact timebaseOps_keep_enables ckd bits prescaler period
  · exact chpwmOps_keep_enables c x
  · exact startOps_keep_enables
  · simp [signOps, drivePair, keepsEnables]
  · simp [dutyOps, keepsEnables]
  · simp [torqueOps, drivePair, keepsEnables]

/-! ### The moves -/

theorem tick_keeps_enables {s t : State} (h : tick s = .next t) : t.q = s.q ∧ EnablesKept s t := by
  rcases tick_cases h with ⟨-, rfl⟩ | ⟨-, -, -, ⟨-, rfl⟩ | ⟨-, -, rfl⟩ | ⟨-, -, rfl⟩⟩ <;>
    exact ⟨rfl, .of_registers rfl rfl rfl⟩

theorem sequencerStep_keeps_enables {s : State} (h : s.QueueKeepsEnables) :
    (sequencerStep s).QueueKeepsEnables ∧ EnablesKept s (sequencerStep s) := by
  rcases sequencerStep_cases s with ⟨-, hstep⟩ | ⟨op, rest, hq, hstep⟩
  · rw [hstep]
    exact ⟨h, .of_registers rfl rfl rfl⟩
  · have hop : keepsEnables op = true := h op (hq ▸ List.mem_cons_self)
    obtain ⟨hcen, harpe, hpreload⟩ := perform_keeps_enables hop { s with q := rest }
    rw [hstep]
    refine ⟨fun op' hmem => h op' ?_, hcen, harpe, hpreload⟩
    rw [traced_q, perform_q] at hmem
    exact hq ▸ List.mem_cons_of_mem op hmem

/-- Settles O57: Q takes only command lists that keep the enables; a micro-operation of Q keeps them; the other moves
write none of their registers. -/
theorem enablesAreNeverCleared : Obligations.EnablesAreNeverCleared := by
  intro s t mv hq hmv h
  suffices t.QueueKeepsEnables ∧ EnablesKept s t from ⟨this.1, this.2.cen, this.2.arpe, this.2.preload⟩
  rcases act_cases h with ⟨w, cw, plan, -, haccept, hplan⟩ | ⟨rfl, -⟩ | ⟨v, rfl⟩ | ⟨-, rfl⟩ | ⟨-, htick⟩
  · rcases accept_cases haccept with ⟨-, rfl⟩ | ⟨-, c, -, rfl⟩ | ⟨-, ops, rfl, rfl⟩
    · exact ⟨hq, .of_registers rfl rfl rfl⟩
    · exact ⟨hq, .of_registers rfl rfl rfl⟩
    · rcases hplan with ⟨i, -, -, hi⟩ | ⟨-, hi⟩
      · exact ⟨planOf_keeps_enables hi.symm, .of_registers rfl rfl rfl⟩
      · cases hi
  · exact absurd rfl hmv
  · exact ⟨hq, .of_registers rfl rfl rfl⟩
  · exact sequencerStep_keeps_enables hq
  · obtain ⟨hq', hkept⟩ := tick_keeps_enables htick
    exact ⟨fun op hop => hq op (hq' ▸ hop), hkept⟩

end Sys2Proof.Machine
end

section
/-! What the micro-operations neither read nor write: Q, the fault latch and the environment (spec/30_encoding.md R114);
and the bookkeeping flags, which they only set (spec/10_state.md R44). -/

namespace Sys2Proof.Machine

/-! ### The shell -/

/-- The state with Q, the fault latch and the environment of another. -/
def State.inShell (s u : State) : State :=
  { s with q := u.q, env := u.env, fault := u.fault, cause := u.cause, fcmd := u.fcmd }

theorem regWrite_inShell (r : TimerReg) (v : Word) (s u : State) :
    regWrite r v (s.inShell u) = (regWrite r v s).inShell u := by
  cases r with
  | egr =>
    cases hv : v.getLsbD 0 with
    | false => rw [regWrite_egr_of_bit_clear _ hv, regWrite_egr_of_bit_clear _ hv]
    | true => rw [regWrite_egr_of_bit_set _ hv, regWrite_egr_of_bit_set _ hv]; rfl
  | _ => rfl

theorem regRead_inShell (r : TimerReg) (s u : State) : regRead r (s.inShell u) = regRead r s := by
  cases r <;> rfl

theorem perform_inShell (op : MicroOp) (s u : State) : perform op (s.inShell u) = (perform op s).inShell u := by
  cases op with
  | w r v => exact regWrite_inShell r v s u
  | m r clr set => rw [perform_m, perform_m, regWrite_inShell, regRead_inShell]
  | k f => cases f <;> rfl
  | _ => rfl

theorem performAll_inShell (ops : List MicroOp) (s u : State) :
    performAll ops (s.inShell u) = (performAll ops s).inShell u := by
  induction ops generalizing s with
  | nil => rfl
  | cons op rest ih => rw [performAll, perform_inShell, ih, performAll]

/-! ### The flags -/

/-- TBDONE, INIT_DONE and every CFGD that are 1 in `s` are 1 in `t`. -/
structure FlagsKept (s t : State) : Prop where
  tbDone : s.tbDone = true → t.tbDone = true
  initDone : s.initDone = true → t.initDone = true
  cfgd : ∀ c : Channel, s.cfgd.get c = true → t.cfgd.get c = true

theorem FlagsKept.of_eq {s t : State} (htb : t.tbDone = s.tbDone) (hinit : t.initDone = s.initDone)
    (hcfgd : t.cfgd = s.cfgd) : FlagsKept s t where
  tbDone h := htb.trans h
  initDone h := hinit.trans h
  cfgd c h := (congrArg (·.get c) hcfgd).trans h

theorem FlagsKept.trans {s t u : State} (h : FlagsKept s t) (h' : FlagsKept t u) : FlagsKept s u :=
  ⟨h'.tbDone ∘ h.tbDone, h'.initDone ∘ h.initDone, fun c => h'.cfgd c ∘ h.cfgd c⟩

theorem regWrite_flags (r : TimerReg) (v : Word) (s : State) :
    (regWrite r v s).tbDone = s.tbDone ∧ (regWrite r v s).initDone = s.initDone ∧
      (regWrite r v s).cfgd = s.cfgd := by
  simp [regWrite_outside]

theorem perform_keeps_flags (op : MicroOp) (s : State) : FlagsKept s (perform op s) := by
  cases op with
  | w r v =>
    obtain ⟨htb, hinit, hcfgd⟩ := regWrite_flags r v s
    exact .of_eq htb hinit hcfgd
  | m r clr set =>
    obtain ⟨htb, hinit, hcfgd⟩ := regWrite_flags r ((regRead r s &&& ~~~clr) ||| set) s
    exact .of_eq htb hinit hcfgd
  | k f =>
    cases f with
    | tbDone => exact ⟨fun _ => rfl, id, fun _ => id⟩
    | initDone => exact ⟨id, fun _ => rfl, fun _ => id⟩
    | cfgd d =>
      refine ⟨id, id, fun c h => ?_⟩
      simp [perform, setFlag, Quad.get_set, h]
  | _ => exact .of_eq rfl rfl rfl

theorem performAll_keeps_flags (ops : List MicroOp) (s : State) : FlagsKept s (performAll ops s) := by
  induction ops generalizing s with
  | nil => exact .of_eq rfl rfl rfl
  | cons op rest ih => exact (perform_keeps_flags op s).trans (ih _)

theorem act_keeps_flags {s t : State} {mv : Move} (hmv : mv ≠ .reset) (h : act mv s = .next t) : FlagsKept s t := by
  rcases act_cases h with ⟨w, cw, plan, -, haccept, -⟩ | ⟨rfl, -⟩ | ⟨v, rfl⟩ | ⟨-, rfl⟩ | ⟨-, htick⟩
  · rcases accept_cases haccept with ⟨-, rfl⟩ | ⟨-, c, -, rfl⟩ | ⟨-, ops, -, rfl⟩ <;> exact .of_eq rfl rfl rfl
  · exact absurd rfl hmv
  · exact .of_eq rfl rfl rfl
  · rcases sequencerStep_cases s with ⟨-, hstep⟩ | ⟨op, rest, -, hstep⟩
    · rw [hstep]
      exact .of_eq rfl rfl rfl
    · obtain ⟨htb, hinit, hcfgd⟩ := perform_keeps_flags op { s with q := rest }
      rw [hstep]
      exact ⟨htb, hinit, hcfgd⟩
  · rcases tick_cases htick with ⟨-, rfl⟩ | ⟨-, -, -, ⟨-, rfl⟩ | ⟨-, -, rfl⟩ | ⟨-, -, rfl⟩⟩ <;>
      exact .of_eq rfl rfl rfl

end Sys2Proof.Machine
end

section
/-! The reachable-state invariant and the micro-operations (spec/10_state.md R61): a micro-operation that finds what it
needs keeps the facts of the invariant. -/

namespace Sys2Proof.Machine

/-- The part of the invariant that speaks of neither Q nor the fault latch. -/
structure State.Sound (s : State) : Prop where
  facts : s.RegisterFacts
  counting : s.cen = true → s.cnt ≤ s.arrA
  configured : ∀ c : Channel, s.cfgd.get c = true → s.ChannelSet c

theorem State.Invariant.sound {s : State} (h : s.Invariant) : s.Sound := ⟨h.facts, h.counting, h.configured⟩

theorem State.Sound.inShell {s : State} (h : s.Sound) (u : State) : (s.inShell u).Sound where
  facts := { h.facts with }
  counting := h.counting
  configured := h.configured

/-- A running counter has the auto-reload preload enabled (R61 (b)). -/
theorem State.Sound.arpe_of_cen {s : State} (h : s.Sound) (hcen : s.cen = true) : s.arpe = true := by
  obtain ⟨-, hset⟩ := h.facts.running hcen
  exact (hset .c1).1.1

theorem EnablesKept.channelSet {s t : State} (h : EnablesKept s t) {c : Channel}
    (hmode : t.ocMode c = s.ocMode c ∨ t.ocMode c = 6#3) (hset : s.ChannelSet c) : t.ChannelSet c := by
  obtain ⟨harpe, hpreload, h6⟩ := hset
  exact ⟨h.arpe harpe, h.preload c hpreload, hmode.elim (·.trans h6) id⟩

/-! ### Modifications of the configuration registers -/

/-- What every modification of CR1, CCMR1, CCMR2 and CCER by a command does to the fields that R61 speaks of. -/
structure ConfigStep (s t : State) : Prop where
  frame : t = { s with cr1 := t.cr1, ccmr1 := t.ccmr1, ccmr2 := t.ccmr2, ccer := t.ccer }
  enables : EnablesKept s t
  mode : ∀ c : Channel, t.ocMode c = s.ocMode c ∨ t.ocMode c = 6#3
  polarity : ∀ c : Channel, t.ccPolarity c = s.ccPolarity c ∨ t.ccPolarity c = false
  counterMode : t.counterMode = s.counterMode ∨ ∃ mode : BitVec 3, modeBits mode = some t.counterMode
  ckd : t.ckd = s.ckd ∨ t.ckd ≠ 3#2
  started : t.cen = s.cen ∨ (s.tbDone = true ∧ s.allConfigured = true ∧ s.cnt ≤ s.arrA)

theorem State.Sound.of_configStep {s t : State} (h : s.Sound) (hst : ConfigStep s t) : t.Sound := by
  obtain ⟨hframe, hen, hmode, hpol, hcm, hckd, hstart⟩ := hst
  have hset (c : Channel) : s.ChannelSet c → t.ChannelSet c := hen.channelSet (hmode c)
  have hrun : t.cen = true →
      (s.tbDone = true ∧ ∀ c : Channel, s.ChannelSet c ∧ s.cfgd.get c = true) ∧ s.cnt ≤ s.arrA := by
    intro ht
    rcases hstart with hcen | ⟨htb, hall, hcnt⟩
    · have hs : s.cen = true := hcen.symm.trans ht
      exact ⟨h.facts.running hs, h.counting hs⟩
    · have hcfgd := (allConfigured_iff s).mp hall
      exact ⟨⟨htb, fun c => ⟨h.configured c (hcfgd c), hcfgd c⟩⟩, hcnt⟩
  rw [hframe] at hset hrun hen hmode hpol hcm hckd ⊢
  refine ⟨⟨h.facts.prescale, fun ht => ?_, fun ht _ => (hrun ht).2, fun c => ⟨?_, ?_⟩, h.facts.pins,
    hen.cen ∘ h.facts.started, fun ht => ?_, fun c ht => ?_, ?_, ?_⟩, fun ht => (hrun ht).2,
    fun c => hset c ∘ h.configured c⟩
  · obtain ⟨⟨htb, hall⟩, -⟩ := hrun ht
    exact ⟨htb, fun c => ⟨hset c (hall c).1, (hall c).2⟩⟩
  · exact (hmode c).elim (fun heq => heq ▸ (h.facts.modes c).1) .inr
  · exact (hpol c).elim (·.trans (h.facts.modes c).2) id
  · exact h.facts.arrShadow (eq_false_of_ne_true fun hs => by simp [hen.arpe hs] at ht)
  · exact h.facts.ccrShadow c (eq_false_of_ne_true fun hs => by simp [hen.preload c hs] at ht)
  · exact hcm.elim (fun heq => heq ▸ h.facts.modeLegal) id
  · exact hckd.elim (fun heq => heq ▸ h.facts.ckdLegal) id

end Sys2Proof.Machine
end

section
/-! The micro-operations of the command lists keep the facts of R61. -/

namespace Sys2Proof.Machine

/-! ### The fields that the modifications of CR1 leave or write (R130 to R132) -/

/-- What TIMEBASE sets in CR1: the mode in bits 6:4 and the clock division in bits 9:8, and nothing else. -/
theorem timebaseBits (bits : BitVec 3) (ckd : BitVec 2) :
    let set : Word := (bits.setWidth 32 <<< 4) ||| (ckd.setWidth 32 <<< 8)
    set.getLsbD 0 = false ∧ set.getLsbD 7 = false ∧ set.extractLsb' 4 3 = bits ∧ set.extractLsb' 8 2 = ckd := by
  revert bits ckd
  decide

theorem configStep_timebase {mode bits : BitVec 3} {ckd : BitVec 2} (hmode : modeBits mode = some bits)
    (hckd : ckd ≠ 3#2) (s : State) :
    ConfigStep s (perform (.m .cr1 0x370#32 ((bits.setWidth 32 <<< 4) ||| (ckd.setWidth 32 <<< 8))) s) := by
  obtain ⟨h0, h7, hbits, hdiv⟩ := timebaseBits bits ckd
  refine ⟨rfl, modify_cr1_keeps_enables rfl rfl _ s, fun _ => .inl rfl, fun _ => .inl rfl, .inr ⟨mode, ?_⟩, .inr ?_,
    .inl ?_⟩
  · rw [counterMode_modify, hbits, hmode]
    exact congrArg some (maskedUpdate_replace_three ..).symm
  · rw [ckd_modify, hdiv]
    exact fun h => hckd ((maskedUpdate_replace_two ..).symm.trans h)
  · rw [cen_modify, h0]
    simp

theorem configStep_enableAutoReload (s : State) : ConfigStep s (perform (.m .cr1 0#32 0x80#32) s) := by
  refine ⟨rfl, modify_cr1_keeps_enables rfl rfl _ s, fun _ => .inl rfl, fun _ => .inl rfl, .inl ?_, .inl ?_, .inl ?_⟩
  · rw [counterMode_modify]
    exact maskedUpdate_keep_three _
  · rw [ckd_modify]
    exact maskedUpdate_keep_two _
  · rw [cen_modify]
    simp

theorem configStep_start {s : State} (htb : s.tbDone = true) (hall : s.allConfigured = true) (hcnt : s.cnt ≤ s.arrA) :
    ConfigStep s (perform (.m .cr1 0#32 1#32) s) := by
  refine ⟨rfl, modify_cr1_keeps_enables rfl rfl _ s, fun _ => .inl rfl, fun _ => .inl rfl, .inl ?_, .inl ?_,
    .inr ⟨htb, hall, hcnt⟩⟩
  · rw [counterMode_modify]
    exact maskedUpdate_keep_three _
  · rw [ckd_modify]
    exact maskedUpdate_keep_two _

/-! ### CHPWM's modifications of its channel (R131) -/

theorem configStep_disable (c : Channel) (s : State) :
    ConfigStep s (perform (.m .ccer (1#32 <<< slotShift c) 0#32) s) :=
  ⟨rfl, .of_registers rfl rfl rfl, fun _ => .inl rfl, fun d => .inl (ccPolarity_disable c d s), .inl rfl, .inl rfl,
    .inl rfl⟩

theorem configStep_activeHigh (c : Channel) (s : State) :
    ConfigStep s (perform (.m .ccer (2#32 <<< slotShift c) (1#32 <<< slotShift c)) s) := by
  refine ⟨rfl, .of_registers rfl rfl rfl, fun _ => .inl rfl, fun d => ?_, .inl rfl, .inl rfl, .inl rfl⟩
  rw [ccPolarity_activeHigh]
  split
  · exact .inr rfl
  · exact .inl rfl

/-- A modification of a mode register leaves CR1 and CCER. -/
theorem configStep_modeReg (c : Channel) {clr set : Word} {s : State} (h3 : clr.getLsbD 3 = false)
    (h11 : clr.getLsbD 11 = false) (hmode : ∀ d : Channel, (perform (.m (modeReg c) clr set) s).ocMode d = s.ocMode d ∨
      (perform (.m (modeReg c) clr set) s).ocMode d = 6#3) : ConfigStep s (perform (.m (modeReg c) clr set) s) := by
  refine ⟨?_, modify_modeReg_keeps_enables c h3 h11 set s, hmode, fun d => .inl ?_, .inl ?_, .inl ?_, .inl ?_⟩ <;>
    cases c <;> rfl

theorem configStep_selectMode (c : Channel) (s : State) :
    ConfigStep s (perform (.m (modeReg c) (7#32 <<< (byteShift c + 4)) (6#32 <<< (byteShift c + 4))) s) := by
  refine configStep_modeReg c (by cases c <;> rfl) (by cases c <;> rfl) fun d => ?_
  rw [ocMode_selectMode]
  split
  · exact .inr rfl
  · exact .inl rfl

theorem configStep_enablePreload (c : Channel) (s : State) :
    ConfigStep s (perform (.m (modeReg c) 0#32 (1#32 <<< (byteShift c + 3))) s) :=
  configStep_modeReg c rfl rfl fun d => .inl (ocMode_enablePreload c d s)

/-- The modifications of the command lists, where each finds what it needs. -/
theorem configStep_of_opReady {r : TimerReg} {clr set : Word} {s : State} (h : opReady (.m r clr set) s) :
    ConfigStep s (perform (.m r clr set) s) := by
  cases r with
  | cr1 =>
    rcases h with ⟨mode, bits, ckd, hmode, hckd, rfl, rfl⟩ | ⟨rfl, rfl⟩ | ⟨rfl, rfl, htb, hall, hcnt⟩
    · exact configStep_timebase hmode hckd s
    · exact configStep_enableAutoReload s
    · exact configStep_start htb hall hcnt
  | ccer =>
    rcases h with ⟨c, ⟨rfl, rfl⟩ | ⟨rfl, rfl⟩⟩
    · exact configStep_disable c s
    · exact configStep_activeHigh c s
  | _ =>
    rcases h with ⟨c, hr, ⟨rfl, rfl⟩ | ⟨rfl, rfl⟩⟩ <;> rw [hr]
    · exact configStep_selectMode c s
    · exact configStep_enablePreload c s

/-! ### Writes of the data registers -/

theorem State.Sound.write_psc {s : State} (h : s.Sound) (v : Word) : (regWrite .psc v s).Sound where
  facts := { h.facts with }
  counting := h.counting
  configured := h.configured

/-- With ARPE = 0 the counter does not run, so that ARR_A may change below CNT. -/
theorem State.Sound.write_arr {s : State} (h : s.Sound) (v : Word) : (regWrite .arr v s).Sound := by
  cases ha : s.arpe with
  | true =>
    rw [regWrite_arr_of_preload v ha]
    exact ⟨{ h.facts with arrShadow := fun h0 => absurd (ha.symm.trans h0) nofun }, h.counting, h.configured⟩
  | false =>
    have hstopped : s.cen ≠ true := fun hcen => by simp [h.arpe_of_cen hcen] at ha
    rw [regWrite_arr_of_no_preload v ha]
    exact ⟨{ h.facts with
        arrShadow := fun _ => rfl
        count := fun hcen => absurd hcen hstopped }, fun hcen => absurd hcen hstopped, h.configured⟩

theorem State.Sound.write_ccr {s : State} (h : s.Sound) (c : Channel) (v : Word) : (regWrite (.ccr c) v s).Sound := by
  suffices hshadow : ∀ d : Channel, s.ocPreload d = false →
      (regWrite (.ccr c) v s).ccrA.get d = (regWrite (.ccr c) v s).ccr.get d from
    ⟨{ h.facts with ccrShadow := hshadow }, h.counting, h.configured⟩
  intro d hd
  have hold : s.ccrA.get d = s.ccr.get d := h.facts.ccrShadow d hd
  cases hc : s.ocPreload c with
  | true =>
    have hne : d ≠ c := by rintro rfl; simp [hc] at hd
    rw [regWrite_ccr_of_preload v hc]
    exact hold.trans (Quad.get_set_ne s.ccr c d v hne).symm
  | false =>
    rw [regWrite_ccr_of_no_preload v hc]
    simp only [Quad.get_set, hold]

/-- Update generation starts a period, within the ARR_A it has just copied (R195). -/
theorem updateGeneration_cnt_le (s : State) : (updateGeneration s).cnt ≤ (updateGeneration s).arrA := by
  rw [updateGeneration_cnt, updateGeneration_arrA]
  split <;> simp [BitVec.le_def]

theorem State.Sound.updateGeneration {s : State} (h : s.Sound) : (updateGeneration s).Sound where
  facts := { h.facts with
    prescale := by simp [BitVec.le_def]
    count := fun _ _ => updateGeneration_cnt_le s
    arrShadow := fun _ => rfl
    ccrShadow := fun _ _ => rfl }
  counting _ := updateGeneration_cnt_le s
  configured := h.configured

/-! ### Pins and flags -/

theorem setPins_pinsExclusive {s : State} (h : s.PinsExclusive) (m : Pair) {a b : Bool}
    (hab : ¬ (a = true ∧ b = true)) : (setPins m a b s).PinsExclusive := by
  intro k
  rw [setPins_dirA, setPins_dirB, Triple.get_set, Triple.get_set]
  split
  · exact hab
  · exact h k

theorem State.Sound.setFlag {s : State} (h : s.Sound) {f : BookFlag} (hf : opReady (.k f) s) :
    (setFlag f s).Sound := by
  cases f with
  | tbDone => exact ⟨{ h.facts with running := fun hcen => ⟨rfl, (h.facts.running hcen).2⟩ }, h.counting, h.configured⟩
  | initDone => exact ⟨{ h.facts with started := fun _ => hf }, h.counting, h.configured⟩
  | cfgd c =>
    have hkept := perform_keeps_flags (.k (.cfgd c)) s
    refine ⟨{ h.facts with running := fun hcen => ?_ }, h.counting, fun d hd => ?_⟩
    · obtain ⟨htb, hall⟩ := h.facts.running hcen
      exact ⟨htb, fun d => ⟨(hall d).1, hkept.cfgd d (hall d).2⟩⟩
    · by_cases heq : d = c
      · exact heq ▸ hf
      · exact h.configured d ((Quad.get_set_ne s.cfgd c d true heq).symm.trans hd)

/-- A micro-operation that finds what it needs keeps the facts of R61. -/
theorem State.Sound.perform {s : State} (h : s.Sound) {op : MicroOp} (hop : opReady op s) : (perform op s).Sound := by
  cases op with
  | w r v =>
    cases r with
    | arr => exact h.write_arr v
    | psc => exact h.write_psc v
    | ccr c => exact h.write_ccr c v
    | egr =>
      obtain rfl : v = 1#32 := hop
      exact h.updateGeneration
    | _ => exact hop.elim
  | m r clr set => exact h.of_configStep (configStep_of_opReady hop)
  | p m a b => exact ⟨{ h.facts with pins := setPins_pinsExclusive h.facts.pins m hop.1 }, h.counting, h.configured⟩
  | k f => exact h.setFlag hop
  | _ => exact ⟨{ h.facts with }, h.counting, h.configured⟩

end Sys2Proof.Machine
end

section
/-! Q and the invariant: a dischargeable list stays so when the timebase moves, and every command's list is
dischargeable when it is accepted. -/

namespace Sys2Proof.Machine

/-! ### Q in another shell -/

theorem opReady_inShell (op : MicroOp) (s u : State) : opReady op (s.inShell u) ↔ opReady op s := by
  cases op with
  | w r v => cases r <;> exact Iff.rfl
  | m r clr set => cases r <;> exact Iff.rfl
  | k f => cases f <;> exact Iff.rfl
  | _ => exact Iff.rfl

theorem dischargeable_inShell {ops : List MicroOp} {s : State} (u : State) (h : Dischargeable ops s) :
    Dischargeable ops (s.inShell u) := by
  induction ops generalizing s with
  | nil => exact h
  | cons op rest ih =>
    obtain ⟨hop, hrest⟩ := h
    refine ⟨(opReady_inShell op s u).mpr hop, ?_⟩
    rw [perform_inShell]
    exact ih hrest

/-! ### Q while the timebase moves -/

/-- The state with what a tick writes taken from another: the counters and the active registers (R190). -/
def State.withTimebase (s u : State) : State :=
  { s with pscCnt := u.pscCnt, cnt := u.cnt, pscA := u.pscA, arrA := u.arrA, ccrA := u.ccrA }

theorem opReady_withTimebase {op : MicroOp} {s u : State} (hcnt : u.cnt ≤ u.arrA) (h : opReady op s) :
    opReady op (s.withTimebase u) := by
  cases op with
  | w r v => cases r <;> exact h
  | m r clr set =>
    cases r with
    | cr1 =>
      rcases h with h | h | ⟨hclr, hset, htb, hall, -⟩
      · exact .inl h
      · exact .inr (.inl h)
      · exact .inr (.inr ⟨hclr, hset, htb, hall, hcnt⟩)
    | _ => exact h
  | k f => cases f <;> exact h
  | _ => exact h

/-- What the list still does to the counter, with ARPE = 1, does not depend on where the counter stands. -/
theorem perform_withTimebase {op : MicroOp} {s u : State} (harpe : s.arpe = true) (hcnt : u.cnt ≤ u.arrA)
    (h : opReady op s) :
    ∃ v : State, perform op (s.withTimebase u) = (perform op s).withTimebase v ∧ v.cnt ≤ v.arrA := by
  cases op with
  | w r v =>
    simp only [perform_w]
    cases r with
    | egr =>
      obtain rfl : v = 1#32 := h
      exact ⟨updateGeneration s, rfl, updateGeneration_cnt_le s⟩
    | arr =>
      rw [regWrite_arr_of_preload v harpe, regWrite_arr_of_preload (s := s.withTimebase u) v harpe]
      exact ⟨u, rfl, hcnt⟩
    | ccr c => exact ⟨regWrite (.ccr c) v (s.withTimebase u), rfl, hcnt⟩
    | psc => exact ⟨u, rfl, hcnt⟩
    | _ => exact h.elim
  | m r clr set =>
    cases r with
    | cr1 => exact ⟨u, rfl, hcnt⟩
    | ccer => exact ⟨u, rfl, hcnt⟩
    | _ =>
      obtain ⟨c, hr, -⟩ := h
      rw [hr]
      cases c <;> exact ⟨u, rfl, hcnt⟩
  | k f => cases f <;> exact ⟨u, rfl, hcnt⟩
  | _ => exact ⟨u, rfl, hcnt⟩

/-- No command list clears an enable (R137). -/
theorem keepsEnables_of_opReady {op : MicroOp} {s : State} (h : opReady op s) : keepsEnables op = true := by
  cases op with
  | w r v =>
    cases r with
    | cr1 | ccmr1 | ccmr2 => exact h.elim
    | _ => rfl
  | m r clr set =>
    cases r with
    | cr1 => rcases h with ⟨-, -, -, -, -, rfl, -⟩ | ⟨rfl, -⟩ | ⟨rfl, -⟩ <;> rfl
    | ccmr1 | ccmr2 => rcases h with ⟨c, -, ⟨rfl, -⟩ | ⟨rfl, -⟩⟩ <;> cases c <;> rfl
    | _ => rfl
  | _ => rfl

theorem dischargeable_withTimebase {ops : List MicroOp} {s u : State} (harpe : s.arpe = true) (hcnt : u.cnt ≤ u.arrA)
    (h : Dischargeable ops s) : Dischargeable ops (s.withTimebase u) := by
  induction ops generalizing s u with
  | nil => exact hcnt
  | cons op rest ih =>
    obtain ⟨hop, hrest⟩ := h
    obtain ⟨v, hperform, hcnt'⟩ := perform_withTimebase harpe hcnt hop
    refine ⟨opReady_withTimebase hcnt hop, ?_⟩
    rw [hperform]
    exact ih ((perform_keeps_enables (keepsEnables_of_opReady hop) s).arpe harpe) hcnt' hrest

/-! ### Putting lists together -/

theorem Dischargeable.cnt_le {ops : List MicroOp} {s : State} (h : Dischargeable ops s) :
    (performAll ops s).cnt ≤ (performAll ops s).arrA := by
  induction ops generalizing s with
  | nil => exact h
  | cons op rest ih => exact ih h.2

theorem Dischargeable.append {a b : List MicroOp} {s : State} (ha : Dischargeable a s)
    (hb : Dischargeable b (performAll a s)) : Dischargeable (a ++ b) s := by
  induction a generalizing s with
  | nil => exact hb
  | cons op rest ih => exact ⟨ha.1, ih ha.2 hb⟩

/-! ### The command lists at their acceptance -/

theorem dischargeable_timebaseOps {mode bits : BitVec 3} {ckd : BitVec 2} (hmode : modeBits mode = some bits)
    (hckd : ckd ≠ 3#2) (prescaler period : Word) (s : State) :
    Dischargeable (timebaseOps ckd bits prescaler period) s :=
  ⟨.inl ⟨mode, bits, ckd, hmode, hckd, rfl, rfl⟩, trivial, trivial, rfl, trivial, updateGeneration_cnt_le _⟩

/-- CHPWM configures its channel before it flags it as configured (R131). -/
theorem dischargeable_chpwmOps (c : Channel) (x : Word) {s : State} (hcnt : s.cnt ≤ s.arrA) :
    Dischargeable (chpwmOps c x) s := by
  have hcnt' (clr set : Word) (t : State) (h : t.cnt ≤ t.arrA) :
      (perform (.m (modeReg c) clr set) t).cnt ≤ (perform (.m (modeReg c) clr set) t).arrA := by
    cases c <;> exact h
  have hready (clr set : Word) (t : State) (h : (clr = 7#32 <<< (byteShift c + 4) ∧ set = 6#32 <<< (byteShift c + 4)) ∨
      (clr = 0#32 ∧ set = 1#32 <<< (byteShift c + 3))) : opReady (.m (modeReg c) clr set) t := by
    cases c <;> exact ⟨_, rfl, h⟩
  refine ⟨⟨c, .inl ⟨rfl, rfl⟩⟩, hready _ _ _ (.inl ⟨rfl, rfl⟩), ⟨c, .inr ⟨rfl, rfl⟩⟩, trivial,
    hready _ _ _ (.inr ⟨rfl, rfl⟩), .inr (.inl ⟨rfl, rfl⟩), ⟨?_, ?_, ?_⟩, hcnt' _ _ _ (hcnt' _ _ _ hcnt)⟩
  · rw [arpe_modify]
    exact Bool.or_true _
  · refine (ocPreload_enablePreload c c _).trans (if_pos rfl)
  · refine (ocMode_enablePreload c c _).trans ((ocMode_selectMode c c _).trans (if_pos rfl))

theorem dischargeable_startOps {s : State} (htb : s.tbDone = true) (hcfgd : ∀ c : Channel, s.cfgd.get c = true)
    (hcnt : s.cnt ≤ s.arrA) : Dischargeable startOps s := by
  refine ⟨.inr (.inr ⟨rfl, rfl, htb, (allConfigured_iff s).mpr hcfgd, hcnt⟩), ?_, hcnt⟩
  show State.cen _ = true
  rw [cen_modify]
  exact Bool.or_true _

theorem cfgd_chpwmOps (c : Channel) (x : Word) (s : State) : (performAll (chpwmOps c x) s).cfgd.get c = true :=
  Quad.get_set_self _ c true

end Sys2Proof.Machine
end

section
/-! Every step keeps the invariant (spec/10_state.md R61), and what follows for the flags (R44) and for a driven pair
(spec/42_direction_controller.md R175). -/

namespace Sys2Proof.Machine

/-! ### INITMOTOR's list -/

/-- TIMEBASE comes first and flags TBDONE, the four CHPWM flag their channels, and no flag is cleared, so that START
finds what it needs (R133). -/
theorem dischargeable_initmotorOps (p : Params) {s : State} (hinit : s.initDone = false) (hcnt : s.cnt ≤ s.arrA) :
    Dischargeable (initmotorOps p) s := by
  have hallOff : Dischargeable [.x .clockEnable, .x .gpioConfigurePwmPins, .x .gpioConfigureDirPins,
      .p .p1 false false, .p .p2 false false, .p .p3 false false] s :=
    ⟨trivial, trivial, trivial, ⟨nofun, fun _ => hinit⟩, ⟨nofun, fun _ => hinit⟩, ⟨nofun, fun _ => hinit⟩, hcnt⟩
  have htimebase := hallOff.append
    (dischargeable_timebaseOps (mode := 0#3) (bits := motorMode) (ckd := motorCkd) rfl (by decide)
      (p.prescalerPwm.setWidth 32) p.periodPwm _)
  have h1 := htimebase.append (dischargeable_chpwmOps .c1 initCompare htimebase.cnt_le)
  have h2 := h1.append (dischargeable_chpwmOps .c2 initCompare h1.cnt_le)
  have h3 := h2.append (dischargeable_chpwmOps .c3 initCompare h2.cnt_le)
  have h4 := h3.append (dischargeable_chpwmOps .c4 initCompare h3.cnt_le)
  refine h4.append (dischargeable_startOps ?tbDone (fun c => ?cfgd) h4.cnt_le)
  all_goals simp only [performAll_append]
  case tbDone =>
    iterate 4 refine (performAll_keeps_flags _ _).tbDone ?_
    rfl
  case cfgd =>
    cases c with
    | c1 =>
      iterate 3 refine (performAll_keeps_flags _ _).cfgd _ ?_
      exact cfgd_chpwmOps ..
    | c2 =>
      iterate 2 refine (performAll_keeps_flags _ _).cfgd _ ?_
      exact cfgd_chpwmOps ..
    | c3 => exact (performAll_keeps_flags _ _).cfgd _ (cfgd_chpwmOps ..)
    | c4 => exact cfgd_chpwmOps ..

/-! ### Acceptance -/

theorem pins_exclusive (p : Params) (m : Pair) (dir : Direction) :
    (pins p m dir).1 = !(pins p m dir).2 := by
  cases dir
  · rw [pins_forward]
  · rw [pins_reverse, Bool.not_not]

/-- A command after initialisation drives exactly one pin of its pair (R172). -/
theorem opReady_drivePair (p : Params) (m : Pair) (dir : Direction) (s : State) : opReady (drivePair p m dir) s := by
  have h := pins_exclusive p m dir
  constructor <;> rintro ⟨ha, hb⟩ <;> simp [ha, hb] at h

theorem dischargeable_planOf {i : Instr} {s : State} {ops : List MicroOp} (hcnt : s.cnt ≤ s.arrA)
    (h : planOf i s = .ok ops) : Dischargeable ops s := by
  rcases planOf_ok_cases h with ⟨-, hinit, rfl⟩ | ⟨ckd, mode, prescaler, period, bits, -, hmode, hckd, rfl⟩ |
    ⟨-, c, x, -, -, rfl⟩ | ⟨-, htb, hall, rfl⟩ | ⟨-, m, v, -, -, -, -, rfl⟩ | ⟨-, c, d, -, -, -, -, rfl⟩ |
    ⟨-, m, t, n, -, -, -, -, -, rfl⟩
  · exact dischargeable_initmotorOps s.cfg hinit hcnt
  · exact dischargeable_timebaseOps hmode hckd prescaler period s
  · exact dischargeable_chpwmOps c x hcnt
  · exact dischargeable_startOps htb ((allConfigured_iff s).mp hall) hcnt
  · exact ⟨opReady_drivePair s.cfg m _ s, trivial, hcnt⟩
  · exact ⟨trivial, hcnt⟩
  · exact ⟨opReady_drivePair s.cfg m _ s, trivial, trivial, hcnt⟩

theorem planOf_length_le {i : Instr} {s : State} {ops : List MicroOp} (h : planOf i s = .ok ops) :
    ops.length ≤ 41 := by
  rcases planOf_ok_cases h with ⟨-, -, rfl⟩ | ⟨ckd, -, prescaler, period, bits, -, -, -, rfl⟩ |
    ⟨-, c, x, -, -, rfl⟩ | ⟨-, -, -, rfl⟩ | ⟨-, m, v, -, -, -, -, rfl⟩ | ⟨-, c, d, -, -, -, -, rfl⟩ |
    ⟨-, m, t, n, -, -, -, -, -, rfl⟩
  · exact Nat.le_refl 41
  all_goals simp [timebaseOps, chpwmOps, startOps, signOps, dutyOps, torqueOps]

theorem Cause.code_ne_zero (c : Cause) : c.code ≠ 0#3 := by
  cases c <;> decide

/-- A fault is entered with Q empty, and with a code of its own (R221, R232). -/
theorem raiseFault_keeps_invariant {s : State} (h : s.Invariant) (hready : s.cmdReady = true) (c : Cause) (cw : Half) :
    (raiseFault c cw s).Invariant where
  facts := (h.sound.inShell (raiseFault c cw s)).facts
  counting := h.counting
  configured := h.configured
  queue := dischargeable_inShell (raiseFault c cw s) h.queue
  bound := h.bound
  latch := ⟨nofun, fun _ => ⟨c.code_ne_zero, ((cmdReady_iff s).mp hready).1⟩⟩

/-- An accepted command finds Q empty, which leaves the counter within the active period. -/
theorem queue_keeps_invariant {s : State} (h : s.Invariant) (hready : s.cmdReady = true) {ops : List MicroOp}
    (hops : s.cnt ≤ s.arrA → Dischargeable ops s) (hlen : ops.length ≤ 41) : { s with q := ops }.Invariant := by
  obtain ⟨hq, hfault⟩ := (cmdReady_iff s).mp hready
  have hcnt : s.cnt ≤ s.arrA := by
    have hempty := h.queue
    rwa [hq] at hempty
  exact {
    facts := (h.sound.inShell { s with q := ops }).facts
    counting := h.counting
    configured := h.configured
    queue := dischargeable_inShell { s with q := ops } (hops hcnt)
    bound := hlen
    latch := ⟨h.latch.clear, fun hf => absurd (hfault.symm.trans hf) nofun⟩ }

theorem accept_keeps_invariant {cw : Half} {plan : Except Cause (List MicroOp)} {s t : State} (h : s.Invariant)
    (hplan : ∀ ops, plan = .ok ops → (s.cnt ≤ s.arrA → Dischargeable ops s) ∧ ops.length ≤ 41)
    (haccept : accept cw plan s = .next t) : t.Invariant := by
  rcases accept_cases haccept with ⟨-, rfl⟩ | ⟨hready, c, -, rfl⟩ | ⟨hready, ops, hops, rfl⟩
  · exact h
  · exact raiseFault_keeps_invariant h hready c cw
  · exact queue_keeps_invariant h hready (hplan ops hops).1 (hplan ops hops).2

/-! ### The other moves -/

theorem State.Invariant.inEnv {s : State} (h : s.Invariant) (e : Env) : { s with env := e }.Invariant where
  facts := (h.sound.inShell { s with env := e }).facts
  counting := h.counting
  configured := h.configured
  queue := dischargeable_inShell { s with env := e } h.queue
  bound := h.bound
  latch := ⟨h.latch.clear, h.latch.latched⟩

theorem sequencerStep_keeps_invariant {s : State} (h : s.Invariant) : (sequencerStep s).Invariant := by
  rcases sequencerStep_cases s with ⟨-, hstep⟩ | ⟨op, rest, hq, hstep⟩
  · rwa [hstep]
  obtain ⟨hop, hrest⟩ : Dischargeable (op :: rest) s := hq ▸ h.queue
  let u : State := traced op { s with q := rest }
  have hsplit : sequencerStep s = (perform op s).inShell u :=
    hstep.trans (congrArg (traced op) (perform_inShell op s { s with q := rest }))
  have hsound := (h.sound.perform hop).inShell u
  rw [hsplit]
  exact {
    facts := hsound.facts
    counting := hsound.counting
    configured := hsound.configured
    queue := dischargeable_inShell u hrest
    bound := by
      have hbound := h.bound
      rw [hq] at hbound
      exact (Nat.le_succ _).trans hbound
    latch := ⟨h.latch.clear, fun hf => absurd (hq.symm.trans (h.latch.latched hf).2) nofun⟩ }

/-- Everything a tick does to the facts that R61 states about the counters and the active registers. -/
theorem tick_keeps_invariant {s t : State} (h : s.Invariant) (htick : tick s = .next t) : t.Invariant := by
  rcases tick_cases htick with ⟨-, rfl⟩ | ⟨hcen, -, -, hcases⟩
  · exact h
  have harpe : s.arpe = true := h.sound.arpe_of_cen hcen
  have hle : s.cnt ≤ s.arrA := h.counting hcen
  suffices ht : t = s.withTimebase t ∧ t.pscCnt ≤ t.pscA ∧ t.cnt ≤ t.arrA ∧
      ∀ c : Channel, s.ocPreload c = false → t.ccrA.get c = s.ccr.get c by
    obtain ⟨hframe, hpsc, hcnt, hccr⟩ := ht
    rw [hframe]
    exact {
      facts := { h.facts with
        prescale := hpsc
        count := fun _ _ => hcnt
        arrShadow := fun h0 => absurd (harpe.symm.trans h0) nofun
        ccrShadow := hccr }
      counting := fun _ => hcnt
      configured := h.configured
      queue := dischargeable_withTimebase harpe hcnt h.queue
      bound := h.bound
      latch := ⟨h.latch.clear, h.latch.latched⟩ }
  rcases hcases with ⟨hlt, rfl⟩ | ⟨-, hne, rfl⟩ | ⟨-, -, rfl⟩
  · refine ⟨rfl, ?_, hle, h.facts.ccrShadow⟩
    show s.pscCnt + 1#16 ≤ s.pscA
    bv_omega
  · refine ⟨rfl, by simp [BitVec.le_def], ?_, h.facts.ccrShadow⟩
    show s.cnt + 1#32 ≤ s.arrA
    bv_omega
  · exact ⟨rfl, by simp [BitVec.le_def], by simp [BitVec.le_def], fun _ _ => rfl⟩

theorem cen_resetWith (p : Params) (e : Env) : (State.resetWith p e).cen = false := BitVec.getLsbD_zero

theorem counterMode_resetWith (p : Params) (e : Env) : (State.resetWith p e).counterMode = 0#3 := by
  simp [State.counterMode, State.resetWith]

theorem ckd_resetWith (p : Params) (e : Env) : (State.resetWith p e).ckd = 0#2 := by
  simp [State.ckd, State.resetWith]

theorem pinsExclusive_resetWith (p : Params) (e : Env) : (State.resetWith p e).PinsExclusive := fun m => by
  simp [State.resetWith]

theorem resetWith_invariant (p : Params) (e : Env) : (State.resetWith p e).Invariant where
  facts :=
    { prescale := BitVec.le_refl _
      running := fun h => absurd ((cen_resetWith p e).symm.trans h) nofun
      count := fun h => absurd ((cen_resetWith p e).symm.trans h) nofun
      modes := fun c => ⟨.inl (ocMode_resetWith p e c), BitVec.getLsbD_zero⟩
      pins := pinsExclusive_resetWith p e
      started := nofun
      arrShadow := fun _ => rfl
      ccrShadow := fun _ _ => rfl
      modeLegal := ⟨0#3, (counterMode_resetWith p e).symm ▸ rfl⟩
      ckdLegal := by rw [ckd_resetWith]; decide }
  counting h := absurd ((cen_resetWith p e).symm.trans h) nofun
  configured c h := by simp [State.resetWith] at h
  queue := by simp [BitVec.le_def, State.resetWith, Dischargeable]
  bound := Nat.zero_le 41
  latch := ⟨fun _ => ⟨rfl, rfl⟩, nofun⟩

/-- Every move keeps the invariant. -/
theorem act_keeps_invariant {s t : State} {mv : Move} (h : s.Invariant) (hact : act mv s = .next t) : t.Invariant := by
  rcases act_cases hact with ⟨w, cw, plan, -, haccept, hplan⟩ | ⟨-, rfl⟩ | ⟨v, rfl⟩ | ⟨-, rfl⟩ | ⟨-, htick⟩
  · refine accept_keeps_invariant h (fun ops hops => ?_) haccept
    rcases hplan with ⟨i, -, -, hi⟩ | ⟨-, hi⟩
    · have hok : planOf i s = .ok ops := hi.symm.trans hops
      exact ⟨fun hcnt => dischargeable_planOf hcnt hok, planOf_length_le hok⟩
    · cases hi.symm.trans hops
  · exact resetWith_invariant s.cfg s.env
  · exact h.inEnv _
  · exact sequencerStep_keeps_invariant h
  · exact tick_keeps_invariant h htick

/-- Settles O58: a step is a move in a state that differs in its environment only, and every move keeps the
invariant. -/
theorem stepKeepsTheInvariant : Obligations.StepKeepsTheInvariant := by
  intro s t h hstep
  obtain ⟨mv, e, hact⟩ := step_cases hstep
  exact act_keeps_invariant (h.inEnv e) hact

end Sys2Proof.Machine
end

section
/-! What every step keeps of the pins (spec/42_direction_controller.md R173 to R175) and of the reserved bits
(spec/10_state.md R42), and the state after reset. -/

namespace Sys2Proof.Machine

/-! ### A driven pair (R175) -/

/-- The pins of a pair differ exactly where it is driven, whichever of the two is the forward pin. -/
theorem pairState_driven_iff (s : State) (m : Pair) :
    (s.pairState m = some .forwardAsserted ∨ s.pairState m = some .reverseAsserted) ↔
      s.dirA.get m = !s.dirB.get m := by
  unfold State.pairState State.forwardPin State.reversePin
  cases s.cfg.swap.get m <;> cases s.dirA.get m <;> cases s.dirB.get m <;> decide

/-- Only P writes the latches. -/
theorem perform_dir (op : MicroOp) (s : State) :
    ((perform op s).dirA = s.dirA ∧ (perform op s).dirB = s.dirB) ∨
      ∃ m a b, op = .p m a b ∧ (perform op s).dirA = s.dirA.set m a ∧ (perform op s).dirB = s.dirB.set m b := by
  cases op with
  | w r v => exact .inl (by simp [perform_w, regWrite_outside])
  | m r clr set => exact .inl (by simp [perform_m, regWrite_outside])
  | p m a b => exact .inr ⟨m, a, b, rfl, rfl, rfl⟩
  | k f => cases f <;> exact .inl ⟨rfl, rfl⟩
  | _ => exact .inl ⟨rfl, rfl⟩

/-- After initialisation a ready P drives exactly one pin. -/
theorem perform_keeps_driven {op : MicroOp} {s : State} (hop : opReady op s) (hinit : s.initDone = true) {m : Pair}
    (h : s.dirA.get m = !s.dirB.get m) : (perform op s).dirA.get m = !(perform op s).dirB.get m := by
  rcases perform_dir op s with ⟨hA, hB⟩ | ⟨k, a, b, rfl, hA, hB⟩
  · rw [hA, hB, h]
  · rw [hA, hB, Triple.get_set, Triple.get_set]
    split
    · obtain ⟨hboth, hnone⟩ := hop
      have hsome : ¬ (a = false ∧ b = false) := fun hoff => by simp [hnone hoff] at hinit
      cases a <;> cases b <;> simp at hboth hsome ⊢
    · exact h

theorem act_keeps_driven {s t : State} {mv : Move} (hinv : s.Invariant) (hinit : s.initDone = true)
    (hmv : mv ≠ .reset) (h : act mv s = .next t) {m : Pair} (hdriven : s.dirA.get m = !s.dirB.get m) :
    t.dirA.get m = !t.dirB.get m := by
  rcases act_cases h with ⟨w, cw, plan, -, haccept, -⟩ | ⟨rfl, -⟩ | ⟨v, rfl⟩ | ⟨-, rfl⟩ | ⟨-, htick⟩
  · rcases accept_cases haccept with ⟨-, rfl⟩ | ⟨-, c, -, rfl⟩ | ⟨-, ops, -, rfl⟩ <;> exact hdriven
  · exact absurd rfl hmv
  · exact hdriven
  · rcases sequencerStep_cases s with ⟨-, hstep⟩ | ⟨op, rest, hq, hstep⟩
    · rwa [hstep]
    · obtain ⟨hop, -⟩ : Dischargeable (op :: rest) s := hq ▸ hinv.queue
      rw [hstep]
      exact perform_keeps_driven (s := { s with q := rest })
        ((opReady_inShell op s { s with q := rest }).mpr hop) hinit hdriven
  · rcases tick_cases htick with ⟨-, rfl⟩ | ⟨-, -, -, ⟨-, rfl⟩ | ⟨-, -, rfl⟩ | ⟨-, -, rfl⟩⟩ <;> exact hdriven

/-- Settles O55: no move but RESET clears a flag; a queued P of the invariant drives one pin once INIT_DONE = 1, and no
other move writes the latches. -/
theorem pairNeverReturnsToBothOff : Obligations.PairNeverReturnsToBothOff := by
  constructor
  · intro s t mv hmv h
    obtain ⟨htb, hinit, hcfgd⟩ := act_keeps_flags hmv h
    exact ⟨htb, hinit, hcfgd⟩
  · intro s t mv m hinv hinit hmv hdriven h
    rw [pairState_driven_iff] at hdriven ⊢
    exact ⟨act_keeps_invariant hinv h, (act_keeps_flags hmv h).initDone hinit,
      act_keeps_driven hinv hinit hmv h hdriven⟩

/-! ### No pair is shorted (R174) -/

theorem drivePair_ne_short (p : Params) (k m : Pair) (dir : Direction) :
    MicroOp.p m true true ≠ drivePair p k dir := by
  intro heq
  obtain ⟨-, ha, hb⟩ := MicroOp.p.inj heq
  simpa [← ha, ← hb] using pins_exclusive p k dir

/-- SIGN and TORQUE drive one pin, INITMOTOR drives none, and the other commands have no P. -/
theorem planOf_never_shorts {i : Instr} {s : State} {ops : List MicroOp} (h : planOf i s = .ok ops) (m : Pair) :
    MicroOp.p m true true ∉ ops := by
  rcases planOf_ok_cases h with ⟨-, -, rfl⟩ | ⟨ckd, -, prescaler, period, bits, -, -, -, rfl⟩ |
    ⟨-, c, x, -, -, rfl⟩ | ⟨-, -, -, rfl⟩ | ⟨-, k, v, -, -, -, -, rfl⟩ | ⟨-, c, d, -, -, -, -, rfl⟩ |
    ⟨-, k, t, n, -, -, -, -, -, rfl⟩
  · simp [initmotorOps, timebaseOps, chpwmOps, startOps]
  · simp [timebaseOps]
  · simp [chpwmOps]
  · simp [startOps]
  · simp [signOps, drivePair_ne_short]
  · simp [dutyOps]
  · simp [torqueOps, drivePair_ne_short]

theorem perform_keeps_pinsExclusive {op : MicroOp} {s : State} (h : s.PinsExclusive)
    (hop : ∀ m : Pair, op ≠ .p m true true) : (perform op s).PinsExclusive := by
  intro m
  rcases perform_dir op s with ⟨hA, hB⟩ | ⟨k, a, b, rfl, -, -⟩
  · rw [hA, hB]
    exact h m
  · refine setPins_pinsExclusive h k ?_ m
    rintro ⟨rfl, rfl⟩
    exact hop k rfl

theorem sequencerStep_never_shorts {s : State} (h : s.NeverShorted) : (sequencerStep s).NeverShorted := by
  rcases sequencerStep_cases s with ⟨-, hstep⟩ | ⟨op, rest, hq, hstep⟩
  · rwa [hstep]
  have hqueued (m : Pair) : op ≠ .p m true true ∧ MicroOp.p m true true ∉ rest := by
    have hmem := h.queued m
    rw [hq, List.mem_cons, not_or] at hmem
    exact ⟨Ne.symm hmem.1, hmem.2⟩
  rw [hstep]
  refine ⟨perform_keeps_pinsExclusive (s := { s with q := rest }) h.pins fun m => (hqueued m).1, fun m => ?_⟩
  rw [traced_q, perform_q]
  exact (hqueued m).2

theorem neverShorted_resetWith (p : Params) (e : Env) : (State.resetWith p e).NeverShorted :=
  ⟨pinsExclusive_resetWith p e, fun _ => List.not_mem_nil⟩

theorem act_never_shorts {s t : State} {mv : Move} (h : s.NeverShorted) (hact : act mv s = .next t) :
    t.NeverShorted := by
  rcases act_cases hact with ⟨w, cw, plan, -, haccept, hplan⟩ | ⟨-, rfl⟩ | ⟨v, rfl⟩ | ⟨-, rfl⟩ | ⟨-, htick⟩
  · rcases accept_cases haccept with ⟨-, rfl⟩ | ⟨-, c, -, rfl⟩ | ⟨-, ops, rfl, rfl⟩
    · exact h
    · exact ⟨h.pins, h.queued⟩
    · rcases hplan with ⟨i, -, -, hi⟩ | ⟨-, hi⟩
      · exact ⟨h.pins, planOf_never_shorts hi.symm⟩
      · cases hi
  · exact neverShorted_resetWith s.cfg s.env
  · exact ⟨h.pins, h.queued⟩
  · exact sequencerStep_never_shorts h
  · rcases tick_cases htick with ⟨-, rfl⟩ | ⟨-, -, -, ⟨-, rfl⟩ | ⟨-, -, rfl⟩ | ⟨-, -, rfl⟩⟩ <;>
      exact ⟨h.pins, h.queued⟩

/-- Settles O54: no command list shorts a pair, and only the P of a list writes the latches. -/
theorem stepNeverShortsAPair : Obligations.StepNeverShortsAPair := by
  intro s t h hstep
  obtain ⟨mv, e, hact⟩ := step_cases hstep
  exact act_never_shorts (s := { s with env := e }) ⟨h.pins, h.queued⟩ hact

/-! ### The reserved bits (R42) -/

theorem and_mask_and_not {n : Nat} (v mask : BitVec n) : v &&& mask &&& ~~~mask = 0#n := by
  simp [BitVec.and_assoc]

/-- A write of one of the four registers goes through its writable mask, and no other write touches them. -/
theorem regWrite_keeps_reservedZero (r : TimerReg) (v : Word) {s : State} (h : s.ReservedZero) :
    (regWrite r v s).ReservedZero := by
  cases r with
  | cr1 => exact { h with cr1 := and_mask_and_not v cr1Mask }
  | ccmr1 => exact { h with ccmr1 := and_mask_and_not v ccmrMask }
  | ccmr2 => exact { h with ccmr2 := and_mask_and_not v ccmrMask }
  | ccer => exact { h with ccer := and_mask_and_not v ccerMask }
  | egr =>
    cases hv : v.getLsbD 0 with
    | false => rwa [regWrite_egr_of_bit_clear s hv]
    | true => rw [regWrite_egr_of_bit_set s hv]; exact { h with }
  | _ => exact { h with }

theorem perform_keeps_reservedZero (op : MicroOp) {s : State} (h : s.ReservedZero) : (perform op s).ReservedZero := by
  cases op with
  | w r v => exact regWrite_keeps_reservedZero r v h
  | m r clr set => exact regWrite_keeps_reservedZero r _ h
  | k f => cases f <;> exact { h with }
  | _ => exact { h with }

theorem reservedZero_resetWith (p : Params) (e : Env) : (State.resetWith p e).ReservedZero :=
  ⟨BitVec.zero_and, BitVec.zero_and, BitVec.zero_and, BitVec.zero_and⟩

theorem act_keeps_reservedZero {s t : State} {mv : Move} (h : s.ReservedZero) (hact : act mv s = .next t) :
    t.ReservedZero := by
  rcases act_cases hact with ⟨w, cw, plan, -, haccept, -⟩ | ⟨-, rfl⟩ | ⟨v, rfl⟩ | ⟨-, rfl⟩ | ⟨-, htick⟩
  · rcases accept_cases haccept with ⟨-, rfl⟩ | ⟨-, c, -, rfl⟩ | ⟨-, ops, -, rfl⟩ <;> exact { h with }
  · exact reservedZero_resetWith s.cfg s.env
  · exact { h with }
  · rcases sequencerStep_cases s with ⟨-, hstep⟩ | ⟨op, rest, -, hstep⟩
    · rwa [hstep]
    · rw [hstep]
      exact { perform_keeps_reservedZero op (s := { s with q := rest }) { h with } with }
  · rcases tick_cases htick with ⟨-, rfl⟩ | ⟨-, -, -, ⟨-, rfl⟩ | ⟨-, -, rfl⟩ | ⟨-, -, rfl⟩⟩ <;> exact { h with }

/-- Settles O56: every register write, of a micro-operation or not, keeps the reserved bits zero, and no other move
writes the four registers but RESET, which clears them. -/
theorem stepKeepsReservedBitsZero : Obligations.StepKeepsReservedBitsZero := by
  intro s t h hstep
  obtain ⟨mv, e, hact⟩ := step_cases hstep
  exact act_keeps_reservedZero (s := { s with env := e }) { h with } hact

/-! ### After reset -/

/-- Settles O59: after reset Q is empty and no pin, enable or reserved bit is set. -/
theorem resetMeetsTheInvariants : Obligations.ResetMeetsTheInvariants := fun p e =>
  ⟨resetWith_invariant p e, reservedZero_resetWith p e, neverShorted_resetWith p e, fun _ => nofun⟩

end Sys2Proof.Machine
end

section
/-! The decoder and the encoder against each other, and the illegal words (spec/30_encoding.md R100 to R111). -/

namespace Sys2Proof.Machine

open Sys2Proof.Laws

/-! ### Every instruction is decoded from its word -/

/-- The sub-fields of format T's auxiliary field (R101). -/
theorem timebaseAux_fields (ckd : BitVec 2) (mode : BitVec 3) :
    (timebaseAux ckd mode).extractLsb' 6 2 = 0#2 ∧ (timebaseAux ckd mode)[3] = false ∧
      (timebaseAux ckd mode).extractLsb' 4 2 = ckd ∧ (timebaseAux ckd mode).extractLsb' 0 3 = mode := by
  revert ckd mode
  decide

theorem operand_high (hi lo : Word) : (hi ++ lo : BitVec 64).extractLsb' 32 32 = hi :=
  BitVec.extractLsb'_append_eq_left

theorem operand_low (hi lo : Word) : (hi ++ lo : BitVec 64).extractLsb' 0 32 = lo :=
  BitVec.extractLsb'_append_eq_right

theorem decodeN_commandWord (op : BitVec 4) (i : Instr) : decodeN (commandWord op 0#4 0#8 0#64) i = .ok i := by
  simp [decodeN, ifReservedZero, chField_commandWord, auxField_commandWord, opdField_commandWord]

theorem decodeT_commandWord (op : BitVec 4) (ckd : BitVec 2) (mode : BitVec 3) (prescaler period : Word) :
    decodeT (commandWord op 0#4 (timebaseAux ckd mode) (prescaler ++ period)) =
      .ok (.timebase ckd mode prescaler period) := by
  obtain ⟨hhigh, hbit, hckd, hmode⟩ := timebaseAux_fields ckd mode
  simp [decodeT, ifReservedZero, chField_commandWord, auxField_commandWord, opdField_commandWord, hhigh, hbit, hckd,
    hmode, operand_high, operand_low]

theorem decodeC_commandWord (op ch : BitVec 4) (compare : Word) :
    decodeC (commandWord op ch 0#8 (0#32 ++ compare)) = .ok (.chpwm ch compare) := by
  simp [decodeC, ifReservedZero, chField_commandWord, auxField_commandWord, opdField_commandWord, operand_high,
    operand_low]

theorem decodeF_commandWord (op ch : BitVec 4) (value : F64) (i : Instr) :
    decodeF (commandWord op ch 0#8 value) i = .ok i := by
  simp [decodeF, ifReservedZero, auxField_commandWord]

/-- Settles O7: the opcode field selects the format, which finds its reserved fields zero and reads the operands
back. -/
theorem decodeOfEncode : Obligations.DecodeOfEncode := by
  intro i
  cases i <;> rw [encode, decode, opField_commandWord]
  case initmotor => exact decodeN_commandWord 1#4 .initmotor
  case timebase ckd mode prescaler period => exact decodeT_commandWord 2#4 ckd mode prescaler period
  case chpwm ch compare => exact decodeC_commandWord 3#4 ch compare
  case start => exact decodeN_commandWord 4#4 .start
  all_goals
    simp only [chField_commandWord, opdField_commandWord]
    exact decodeF_commandWord ..

/-! ### Every legal word is the encoding of its instruction -/

/-- A word is its four fields, one after the other (R100). -/
theorem commandWord_fields (w : Cmd) : commandWord (opField w) (chField w) (auxField w) (opdField w) = w := by
  unfold commandWord opField chField auxField opdField
  rw [BitVec.extractLsb'_append_extractLsb'_eq_extractLsb' (by rfl),
    BitVec.extractLsb'_append_extractLsb'_eq_extractLsb' (by rfl),
    BitVec.extractLsb'_append_extractLsb'_eq_extractLsb' (by rfl)]
  exact BitVec.extractLsb'_eq_self

theorem operand_halves (opd : BitVec 64) : opd.extractLsb' 32 32 ++ opd.extractLsb' 0 32 = opd := by
  rw [BitVec.extractLsb'_append_extractLsb'_eq_extractLsb' (by rfl)]
  exact BitVec.extractLsb'_eq_self

theorem timebaseAux_of_fields {aux : BitVec 8} (hhigh : aux.extractLsb' 6 2 = 0#2) (hbit : aux[3] = false) :
    timebaseAux (aux.extractLsb' 4 2) (aux.extractLsb' 0 3) = aux := by
  revert aux
  decide

/-- A word of which the opcode and the fields are known. -/
theorem commandWord_eq {w : Cmd} {op ch : BitVec 4} {aux : BitVec 8} {opd : BitVec 64} (hop : opField w = op)
    (hch : chField w = ch) (haux : auxField w = aux) (hopd : opdField w = opd) : commandWord op ch aux opd = w := by
  rw [← hop, ← hch, ← haux, ← hopd, commandWord_fields]

theorem ifReservedZero_eq_ok {zero : Bool} {i j : Instr} (h : ifReservedZero zero i = .ok j) : zero = true ∧ i = j := by
  cases zero with
  | false => cases h
  | true => exact ⟨rfl, Except.ok.inj h⟩

theorem decodeN_eq_ok {w : Cmd} {i j : Instr} (h : decodeN w i = .ok j) :
    chField w = 0#4 ∧ auxField w = 0#8 ∧ opdField w = 0#64 ∧ i = j := by
  obtain ⟨hzero, hi⟩ := ifReservedZero_eq_ok h
  simpa [and_assoc, hi] using hzero

theorem decodeT_eq_ok {w : Cmd} {j : Instr} (h : decodeT w = .ok j) :
    chField w = 0#4 ∧ ∃ ckd mode prescaler period, auxField w = timebaseAux ckd mode ∧
      opdField w = prescaler ++ period ∧ .timebase ckd mode prescaler period = j := by
  obtain ⟨hzero, hj⟩ := ifReservedZero_eq_ok h
  obtain ⟨⟨hch, hhigh⟩, hbit⟩ : (chField w = 0#4 ∧ (auxField w).extractLsb' 6 2 = 0#2) ∧ (auxField w)[3] = false := by
    simpa using hzero
  exact ⟨hch, _, _, _, _, (timebaseAux_of_fields hhigh hbit).symm, (operand_halves _).symm, hj⟩

theorem decodeC_eq_ok {w : Cmd} {j : Instr} (h : decodeC w = .ok j) :
    auxField w = 0#8 ∧ ∃ compare, opdField w = 0#32 ++ compare ∧ .chpwm (chField w) compare = j := by
  obtain ⟨hzero, hj⟩ := ifReservedZero_eq_ok h
  obtain ⟨haux, hhigh⟩ : auxField w = 0#8 ∧ (opdField w).extractLsb' 32 32 = 0#32 := by simpa using hzero
  exact ⟨haux, _, hhigh ▸ (operand_halves _).symm, hj⟩

theorem decodeF_eq_ok {w : Cmd} {i j : Instr} (h : decodeF w i = .ok j) : auxField w = 0#8 ∧ i = j := by
  obtain ⟨hzero, hi⟩ := ifReservedZero_eq_ok h
  exact ⟨by simpa using hzero, hi⟩

/-- Settles O8: a legal word is its opcode and the fields its format reads, with zeros in the others, which is how the
encoder puts it together. -/
theorem encodeOfDecode : Obligations.EncodeOfDecode := by
  intro w i h
  have hopcode {n : Nat} (hn : (opField w).toNat = n) : opField w = BitVec.ofNat 4 n := by
    rw [← hn, BitVec.ofNat_toNat, BitVec.setWidth_eq]
  unfold decode at h
  split at h
  case h_1 hop =>
    obtain ⟨hch, haux, hopd, rfl⟩ := decodeN_eq_ok h
    exact commandWord_eq (hopcode hop) hch haux hopd
  case h_2 hop =>
    obtain ⟨hch, ckd, mode, prescaler, period, haux, hopd, rfl⟩ := decodeT_eq_ok h
    exact commandWord_eq (hopcode hop) hch haux hopd
  case h_3 hop =>
    obtain ⟨haux, compare, hopd, rfl⟩ := decodeC_eq_ok h
    exact commandWord_eq (hopcode hop) rfl haux hopd
  case h_4 hop =>
    obtain ⟨hch, haux, hopd, rfl⟩ := decodeN_eq_ok h
    exact commandWord_eq (hopcode hop) hch haux hopd
  case h_5 hop =>
    obtain ⟨haux, rfl⟩ := decodeF_eq_ok h
    exact commandWord_eq (hopcode hop) rfl haux rfl
  case h_6 hop =>
    obtain ⟨haux, rfl⟩ := decodeF_eq_ok h
    exact commandWord_eq (hopcode hop) rfl haux rfl
  case h_7 hop =>
    obtain ⟨haux, rfl⟩ := decodeF_eq_ok h
    exact commandWord_eq (hopcode hop) rfl haux rfl
  case h_8 => cases h

/-! ### The words without an instruction -/

theorem exists_ifReservedZero {zero : Bool} (i : Instr) (h : zero = true) :
    ∃ j : Instr, ifReservedZero zero i = .ok j := ⟨i, if_pos h⟩

/-- `aux[3]` and `aux[7:6]` in the word's own bits (R100). -/
theorem auxField_reserved (w : Cmd) :
    (auxField w).getLsbD 3 = w.getLsbD 67 ∧ (auxField w).extractLsb' 6 2 = w.extractLsb' 70 2 := by
  constructor
  · simp [auxField]
  · ext k hk
    have hin : 6 + k < 8 := by omega
    simp [auxField, hin, ← Nat.add_assoc]

/-- Every word that the rule does not call illegal has an opcode of 1 to 7, and zeros where its format wants them. -/
theorem exists_decode_of_legal {w : Cmd} (h : ¬ illegalWord w) : ∃ i : Instr, decode w = .ok i := by
  obtain ⟨hbit, hhigh⟩ := auxField_reserved w
  have hopd : (opdField w).extractLsb' 32 32 = w.extractLsb' 32 32 :=
    BitVec.extractLsb'_extractLsb'_of_le (le_refl 64)
  rw [illegalWord_iff] at h
  simp only [not_or, not_and, not_not, ne_eq, Bool.not_eq_true] at h
  obtain ⟨hop0, hop8, hN, hT, hC, hF⟩ := h
  have hop : (opField w).toNat = 1 ∨ (opField w).toNat = 2 ∨ (opField w).toNat = 3 ∨ (opField w).toNat = 4 ∨
      (opField w).toNat = 5 ∨ (opField w).toNat = 6 ∨ (opField w).toNat = 7 := by omega
  rcases hop with hop | hop | hop | hop | hop | hop | hop <;> rw [decode, hop] <;> apply exists_ifReservedZero
  · simp [hN (.inl hop)]
  · obtain ⟨hch, hbit', hhigh'⟩ := hT hop
    rw [hch, hbit, hbit', hhigh, hhigh']
    rfl
  · simp [hC hop, hopd]
  · simp [hN (.inr hop)]
  · simp [hF (.inl hop)]
  · simp [hF (.inr (.inl hop))]
  · simp [hF (.inr (.inr hop))]

/-- Settles O9: an illegal word is refused by its opcode or by its format, and every other word is decoded. -/
theorem illegalWordsAreThoseOfTheRule : Obligations.IllegalWordsAreThoseOfTheRule := by
  intro w
  constructor
  · exact fun h => by_contra fun hlegal => h (exists_decode_of_legal hlegal)
  · rintro h ⟨i, hi⟩
    obtain ⟨e, he⟩ := decode_of_illegalWord h
    cases hi.symm.trans he

/-- Settles O6: each word is put together from its fields, so that the encoder and the round trip give its command. -/
theorem sampleWordsDecode : Obligations.SampleWordsDecode := by
  have hread {w : Cmd} (i : Instr) (hw : encode i = w) : decode w = .ok i := hw ▸ decodeOfEncode i
  exact ⟨hread _ rfl, hread _ rfl, hread _ rfl, hread _ rfl, hread _ rfl, hread _ rfl, hread _ rfl⟩

end Sys2Proof.Machine
end

section
/-! The agents' moves (spec/00_scope.md R19): where the next move comes from, the host's moves, the sequencer, and what
acceptance and a fault leave alone. -/

namespace Sys2Proof.Machine

/-! ### Where the next move comes from (R19, R203) -/

theorem nextMove_of_script {s : State} {mv : Move} {rest : List Move} (h : s.env.script = mv :: rest) :
    nextMove s = (mv, { s with env := { s.env with script := rest } }) := by
  rw [nextMove, h]

theorem nextMove_of_no_script {s : State} (h : s.env.script = []) :
    nextMove s = (Config.freeMove s.env.clock, { s with env := { s.env with clock := s.env.clock + 1 } }) := by
  rw [nextMove, h]

/-- Settles O3: the two branches of the next move. -/
theorem stepIsOneMove : Obligations.StepIsOneMove :=
  ⟨fun s mv rest h => by rw [step, nextMove_of_script h], fun s h => by rw [step, nextMove_of_no_script h]⟩

theorem offerCommand_of_decode_ok {w : Cmd} {i : Instr} (s : State) (h : decode w = .ok i) :
    offerCommand w s = exec i s := by
  simp only [offerCommand, h]

/-- Settles O4: the scripted offer is the next move, and a legal word is executed. -/
theorem stepRunsOfferedCommand : Obligations.StepRunsOfferedCommand := by
  intro s w i rest hscript hdecode
  rw [stepIsOneMove.1 s _ rest hscript]
  exact offerCommand_of_decode_ok _ hdecode

theorem decode_of_decodeTableWord {w : Nat} {i : Instr} (h : decodeTableWord 80 w = some i) :
    decode (BitVec.ofNat 80 (w % 2 ^ 80)) = .ok i := by
  unfold decodeTableWord at h
  dsimp only at h
  split at h
  · split at h
    case h_1 hdecode => rw [hdecode, Option.some.inj h]
    case h_2 => cases h
  · cases h

/-- Settles O5: withFetchWord puts the offer at the head of the script, and the step takes it away again. -/
theorem fetchWordRunsNext : Obligations.FetchWordRunsNext := fun s _ i h =>
  stepRunsOfferedCommand (s.withFetchWord 80 _) _ i s.env.script rfl (decode_of_decodeTableWord h)

/-- Settles O2: the RESET move is the hard reset. -/
theorem resetFromAnyState : Obligations.ResetFromAnyState := fun _ => rfl

/-! ### The host reads and observes (R62, R76, R83) -/

theorem observeItem_of_observed {item : Item} {s : State} {v : Seen} (h : observed item s = .ok v) :
    observeItem item s = .next (withSeen v s) := by
  rw [observeItem, h]

theorem observeItem_of_refused {item : Item} {s : State} {r : Refusal} (h : observed item s = .error r) :
    observeItem item s = .refused r := by
  rw [observeItem, h]

theorem exists_withSeen_of_observeItem {item : Item} {s t : State} (h : observeItem item s = .next t) :
    ∃ v : Seen, t = withSeen v s := by
  cases hv : observed item s with
  | ok v => rw [observeItem_of_observed hv] at h; injection h with h; exact ⟨v, h.symm⟩
  | error r => rw [observeItem_of_refused hv] at h; cases h

theorem readOffset_regOffset (r : TimerReg) (s : State) :
    readOffset (regOffset r) s = .next (withSeen (.bits 32 (regRead r s).toNat) s) := by
  rw [readOffset, regAt_regOffset]

theorem readOffset_of_unassigned {offset : Nat} (h : ∀ r : TimerReg, regOffset r ≠ offset) (s : State) :
    readOffset offset s = .refused (.unassignedOffset offset) := by
  cases hr : regAt offset with
  | none => rw [readOffset, hr]
  | some r => exact absurd (regOffset_of_regAt hr) (h r)

section
variable {s : State} {c : Channel}

theorem observed_ocRef {b : Bool} (h : s.ocRef c = some b) : observed (.ocRef c) s = .ok (.bits 1 b.toNat) := by
  simp [observed, h]

theorem observed_ocRef_none (h : s.ocRef c = none) : observed (.ocRef c) s = .error (.referenceWithoutMeaning c) := by
  simp [observed, h]

theorem observed_pwmOut {b : Bool} (h : s.pwmOut c = some b) : observed (.pwmOut c) s = .ok (.bits 1 b.toNat) := by
  simp [observed, h]

theorem observed_pwmOut_none (h : s.pwmOut c = none) :
    observed (.pwmOut c) s = .error (.referenceWithoutMeaning c) := by
  simp [observed, h]

end

theorem observed_resDir (s : State) :
    observed .resDir s = .ok (.bits 1 (if s.resDir = .reverse then 1 else 0)) := by
  cases h : s.resDir <;> simp [observed, h]

theorem observed_busy (s : State) : observed .busy s = .ok (.bits 1 (if s.q = [] then 0 else 1)) := by
  cases h : s.q <;> simp [observed, State.busy, h]

theorem observed_cmdReady (s : State) :
    observed .cmdReady s = .ok (.bits 1 (if s.q = [] ∧ s.fault = false then 1 else 0)) := by
  cases h : s.q <;> cases hf : s.fault <;> simp [observed, State.cmdReady, h, hf]

/-- Settles O36: an observation or a read answers the state with what was seen, or the refusal; the items that are
fields are shown as they stand, and the derived signals by the lemmas above. -/
theorem hostReadHasNoSideEffect : Obligations.HostReadHasNoSideEffect := by
  refine ⟨fun s t item => exists_withSeen_of_observeItem, fun s offset => ⟨?read, fun h => readOffset_of_unassigned h s,
    ⟨rfl, rfl, rfl, rfl, rfl, rfl, rfl, fun _ => rfl⟩, ⟨rfl, rfl, rfl, fun _ => rfl⟩,
    ⟨rfl, rfl, fun _ => rfl, rfl, rfl, rfl, rfl⟩, fun _ => ⟨rfl, rfl, rfl⟩,
    ⟨observeItem_of_observed (observed_resDir s), rfl⟩,
    ⟨observeItem_of_observed (observed_busy s), observeItem_of_observed (observed_cmdReady s)⟩, fun c => ?signals⟩⟩
  case read =>
    rintro r rfl
    exact readOffset_regOffset r s
  case signals =>
    exact ⟨fun b h => observeItem_of_observed (observed_ocRef h),
      fun h => observeItem_of_refused (observed_ocRef_none h),
      fun b h => observeItem_of_observed (observed_pwmOut h),
      fun h => observeItem_of_refused (observed_pwmOut_none h)⟩

/-! ### Acceptance (R100, R115) -/

/-- Settles O21: a legal word waits at acceptance, and an illegal one too. -/
theorem offeredWordWaitsWhenNotReady : Obligations.OfferedWordWaitsWhenNotReady := by
  intro s w hready
  rw [act]
  cases hd : decode w with
  | ok i => rw [offerCommand_of_decode_ok s hd, exec_eq_accept, accept_not_ready _ _ _ hready]
  | error e => rw [offerCommand_of_decode_error hd, accept_not_ready _ _ _ hready]

/-- Settles O22: acceptance leaves the state, enters the fault with the command's control word, or fills Q; no register
is in the shell that it writes. -/
theorem acceptanceChangesOnlyQueueOrLatch : Obligations.AcceptanceChangesOnlyQueueOrLatch := by
  intro i s t h
  rw [exec_eq_accept] at h
  rcases accept_cases h with ⟨-, rfl⟩ | ⟨-, c, -, rfl⟩ | ⟨-, ops, -, rfl⟩
  · exact ⟨.inr rfl, fun _ => rfl⟩
  · exact ⟨.inl ⟨rfl, rfl, rfl, rfl⟩, fun r => regRead_inShell r s (raiseFault c (controlWord i) s)⟩
  · exact ⟨.inr rfl, fun r => regRead_inShell r s { s with q := ops }⟩

/-! ### The sequencer (R114, R116) -/

theorem sequencerStep_of_queue {s : State} {op : MicroOp} {rest : List MicroOp} (h : s.q = op :: rest) :
    sequencerStep s = traced op (perform op { s with q := rest }) := by
  rw [sequencerStep, h]

theorem sequencerStep_of_empty {s : State} (h : s.q = []) : sequencerStep s = s := by
  rw [sequencerStep, h]

/-- Settles O37: the two cases of the sequencer's step, and the table of the micro-operations. -/
theorem sequencerPerformsTheOldest : Obligations.SequencerPerformsTheOldest :=
  ⟨fun _ _ _ h => congrArg Host.Outcome.next (sequencerStep_of_queue h),
    fun _ h => congrArg Host.Outcome.next (sequencerStep_of_empty h),
    fun s _ _ _ _ _ _ _ => ⟨fun r v clr set => ⟨perform_w r v s, perform_m r clr set s⟩, rfl, rfl, rfl, rfl, rfl, rfl,
      rfl⟩⟩

/-- The state that a list leaves once the sequencer has performed it: the effects of the list, Q empty, and the list in
the trace. -/
def drained (ops : List MicroOp) (s : State) : State :=
  (performAll ops s).inShell { s with q := [], env := { s.env with trace := ops.reverse ++ s.env.trace } }

/-- A micro-operation sees neither Q nor the trace, so the effects of the rest are those of the rest in the state it
leaves. -/
theorem sequencerRun_eq_drained {ops : List MicroOp} {s : State} (hq : s.q = ops) :
    sequencerRun ops.length s = drained ops s := by
  induction ops generalizing s with
  | nil =>
    cases s
    cases hq
    rfl
  | cons op rest ih =>
    let u : State := traced op { s with q := rest }
    have hstep : sequencerStep s = (perform op s).inShell u :=
      (sequencerStep_of_queue hq).trans (congrArg (traced op) (perform_inShell op s { s with q := rest }))
    have hrest := ih (s := (perform op s).inShell u) rfl
    rw [List.length_cons, sequencerRun, hstep, hrest, drained, drained, performAll_inShell, List.reverse_cons,
      List.append_assoc]
    rfl

/-- Settles O38: the drained state, with the list performed in the state without Q. -/
theorem sequencerDrainsTheQueue : Obligations.SequencerDrainsTheQueue := by
  intro s
  have hperform := performAll_inShell s.q s { s with q := [] }
  rw [sequencerRun_eq_drained rfl]
  exact congrArg (fun t : State => { t with env := { s.env with trace := s.q.reverse ++ s.env.trace } }) hperform.symm

/-! ### A fault (R233) -/

/-- Settles O29: with FAULT = 1 and Q empty nothing is accepted and the sequencer has no step; ticks, reads and
observations do not write the latch. -/
theorem faultIsSticky : Obligations.FaultIsSticky := by
  intro s t mv hlatch hfault hmv h
  obtain ⟨-, hq⟩ := hlatch.latched hfault
  have hbusy : s.cmdReady = false := by simp [State.cmdReady, hfault]
  rcases act_cases h with ⟨w, cw, plan, -, haccept, -⟩ | ⟨rfl, -⟩ | ⟨v, rfl⟩ | ⟨-, rfl⟩ | ⟨-, htick⟩
  · rw [accept_not_ready cw plan s hbusy] at haccept
    cases haccept
    exact ⟨hfault, rfl, rfl, hq⟩
  · exact absurd rfl hmv
  · exact ⟨hfault, rfl, rfl, hq⟩
  · rw [sequencerStep_of_empty hq]
    exact ⟨hfault, rfl, rfl, hq⟩
  · rcases tick_cases htick with ⟨-, rfl⟩ | ⟨-, -, -, ⟨-, rfl⟩ | ⟨-, -, rfl⟩ | ⟨-, -, rfl⟩⟩ <;>
      exact ⟨hfault, rfl, rfl, hq⟩

end Sys2Proof.Machine
end

section
/-! What the lists of TIMEBASE and CHPWM do to the state (spec/40_timer_channel_programmer.md R130, R131). -/

namespace Sys2Proof.Machine

/-! ### TIMEBASE (R130) -/

theorem dir_modify (clr set : Word) (s : State) :
    (perform (.m .cr1 clr set) s).dir = ((s.dir && !clr.getLsbD 4) || set.getLsbD 4) :=
  (getLsbD_maskedUpdate ..).trans (Bool.and_true _)

/-- Bit 0 of the mode's bits is CR1.DIR (R31). -/
theorem dir_timebase (bits : BitVec 3) (ckd : BitVec 2) (s : State) :
    (perform (.m .cr1 0x370#32 ((bits.setWidth 32 <<< 4) ||| (ckd.setWidth 32 <<< 8))) s).dir = bits.getLsbD 0 := by
  have hbit : ((bits.setWidth 32 <<< 4) ||| (ckd.setWidth 32 <<< 8) : Word).getLsbD 4 = bits.getLsbD 0 := by
    revert bits ckd
    decide
  have hclr : (0x370#32).getLsbD 4 = true := rfl
  rw [dir_modify, hbit, hclr, Bool.not_true, Bool.and_false, Bool.false_or]

/-- The state of R130 corner case (b): the update generation copies the period just written, whatever ARPE is. -/
theorem performAll_timebaseOps (ckd : BitVec 2) (bits : BitVec 3) (prescaler period : Word) (s : State) :
    performAll (timebaseOps ckd bits prescaler period) s =
      { s with
        cr1 := maskedUpdate cr1Mask 0x370#32 ((bits.setWidth 32 <<< 4) ||| (ckd.setWidth 32 <<< 8)) s.cr1
        arr := period, arrA := period
        psc := prescaler.setWidth 16, pscA := prescaler.setWidth 16, pscCnt := 0#16
        ccrA := s.ccr
        cnt := if bits.getLsbD 0 then period else 0#32
        tbDone := true } := by
  rw [← dir_timebase bits ckd s]
  rfl

/-- Settles O11: the operands pass the check of TIMEBASE, and its list leaves the state of R130. -/
theorem timebaseCompletes : Obligations.TimebaseCompletes := fun s ckd _ bits prescaler period hready hmode hckd =>
  ⟨exec_of_planOf_ok (i := .timebase ckd _ prescaler period) hready
      (timebasePlan_of_operands prescaler period hmode hckd),
    performAll_timebaseOps ckd bits prescaler period s⟩

/-! ### CHPWM (R131) -/

theorem chpwmPlan_of_channel {ch : BitVec 4} {c : Channel} (x : Word) (h : channelOf ch = some c) :
    chpwmPlan ch x = .ok (chpwmOps c x) := by
  simp [chpwmPlan, h]

/-- Settles O12: a channel of 1 to 4 is CHPWM's only check. -/
theorem chpwmCompletes : Obligations.ChpwmCompletes := fun _ ch _ x hready hc =>
  exec_of_planOf_ok (i := .chpwm ch x) hready (chpwmPlan_of_channel x hc)

/-- The second state differs from the first in what CHPWM writes only. -/
def ChannelFrame (s t : State) : Prop :=
  t = { s with cr1 := t.cr1, ccmr1 := t.ccmr1, ccmr2 := t.ccmr2, ccer := t.ccer, ccr := t.ccr, ccrA := t.ccrA,
               cfgd := t.cfgd }

theorem ChannelFrame.trans {s t u : State} (h : ChannelFrame s t) (h' : ChannelFrame t u) : ChannelFrame s u := by
  unfold ChannelFrame at *
  rw [h] at h'
  exact h'

section
variable (c d : Channel) (x : Word) (s : State)

theorem ocMode_chpwmOps : (performAll (chpwmOps c x) s).ocMode d = if d = c then 6#3 else s.ocMode d :=
  (ocMode_enablePreload c d _).trans (ocMode_selectMode c d _)

theorem ocPreload_chpwmOps :
    (performAll (chpwmOps c x) s).ocPreload d = if d = c then true else s.ocPreload d := by
  refine (ocPreload_enablePreload c d _).trans ?_
  split
  · rfl
  · exact ocPreload_selectMode c d _

theorem ccer_modeReg (clr set : Word) : (perform (.m (modeReg c) clr set) s).ccer = s.ccer := by
  cases c <;> rfl

/-- The slot of the channel is disabled, made active-high and enabled; nothing else writes CCER. -/
theorem ccer_chpwmOps : (performAll (chpwmOps c x) s).ccer =
    maskedUpdate ccerMask (1#32 <<< slotShift c ||| 2#32 <<< slotShift c) (1#32 <<< slotShift c) s.ccer := by
  have hlast : (performAll (chpwmOps c x) s).ccer = maskedUpdate ccerMask (2#32 <<< slotShift c) (1#32 <<< slotShift c)
      (maskedUpdate ccerMask (1#32 <<< slotShift c) 0#32 s.ccer) := by
    cases c <;> rfl
  rw [hlast, maskedUpdate_maskedUpdate, BitVec.zero_and, BitVec.zero_or]

theorem ccEnable_chpwmOps : (performAll (chpwmOps c x) s).ccEnable d = if d = c then true else s.ccEnable d := by
  rw [State.ccEnable, ccer_chpwmOps, getLsbD_maskedUpdate]
  cases c <;> cases d <;> simp [slotShift, Channel.index, ccerMask, State.ccEnable]

theorem ccPolarity_chpwmOps :
    (performAll (chpwmOps c x) s).ccPolarity d = if d = c then false else s.ccPolarity d := by
  rw [State.ccPolarity, ccer_chpwmOps, getLsbD_maskedUpdate]
  cases c <;> cases d <;> simp [slotShift, Channel.index, ccerMask, State.ccPolarity]

theorem cr1_chpwmOps : (performAll (chpwmOps c x) s).cr1 = maskedUpdate cr1Mask 0#32 0x80#32 s.cr1 := by
  cases c <;> rfl

/-- CHPWM leaves the fields of CR1 but ARPE. -/
theorem cr1Fields_chpwmOps :
    let t := performAll (chpwmOps c x) s
    t.arpe = true ∧ t.cen = s.cen ∧ t.counterMode = s.counterMode ∧ t.ckd = s.ckd := by
  refine ⟨?_, ?_, ?_, ?_⟩
  · rw [State.arpe, cr1_chpwmOps, getLsbD_maskedUpdate]
    simp [cr1Mask]
  · rw [State.cen, cr1_chpwmOps, getLsbD_maskedUpdate]
    simp [cr1Mask, State.cen]
  · rw [State.counterMode, cr1_chpwmOps, extractLsb'_maskedUpdate]
    exact maskedUpdate_keep_three _
  · rw [State.ckd, cr1_chpwmOps, extractLsb'_maskedUpdate]
    exact maskedUpdate_keep_two _

theorem ccr_chpwmOps : (performAll (chpwmOps c x) s).ccr = s.ccr.set c x := by
  cases c <;> rfl

/-- The write of CCRc finds the preload enable as it was before CHPWM (R80). -/
theorem ccrA_chpwmOps :
    (performAll (chpwmOps c x) s).ccrA = if s.ocPreload c then s.ccrA else s.ccrA.set c x := by
  have h : (perform (.m (modeReg c) (7#32 <<< (byteShift c + 4)) (6#32 <<< (byteShift c + 4)))
      (perform (.m .ccer (1#32 <<< slotShift c) 0#32) s)).ocPreload c = s.ocPreload c := ocPreload_selectMode c c _
  rw [← h]
  cases c <;> rfl

theorem cfgd_chpwmOps_eq : (performAll (chpwmOps c x) s).cfgd = s.cfgd.set c true := by
  cases c <;> rfl

/-- PWM mode 1 and the preload enable go into the byte of the channel; nothing else writes a mode register. -/
theorem modeWord_chpwmOps : (performAll (chpwmOps c x) s).modeWord d =
    if modeReg d = modeReg c then
      maskedUpdate ccmrMask (7#32 <<< (byteShift c + 4))
        (6#32 <<< (byteShift c + 4) ||| 1#32 <<< (byteShift c + 3)) (s.modeWord d)
    else s.modeWord d := by
  have hlast : (performAll (chpwmOps c x) s).modeWord d =
      if modeReg d = modeReg c then
        maskedUpdate ccmrMask 0#32 (1#32 <<< (byteShift c + 3))
          (maskedUpdate ccmrMask (7#32 <<< (byteShift c + 4)) (6#32 <<< (byteShift c + 4)) (s.modeWord d))
      else s.modeWord d := by
    cases c <;> cases d <;> rfl
  rw [hlast, maskedUpdate_maskedUpdate, BitVec.or_zero, BitVec.not_zero, BitVec.and_allOnes]

theorem chpwmOps_frame : ChannelFrame s (performAll (chpwmOps c x) s) := by
  cases c <;> rfl

/-- From CHPWM's first micro-operation to its third the output is disabled (R131 corner case (d)). -/
theorem pwmOut_chpwmOps_take {n : Nat} (hn : n = 1 ∨ n = 2) :
    (performAll ((chpwmOps c x).take n) s).pwmOut c = some false := by
  have hoff := (ccEnable_disable c c s).trans (if_pos rfl)
  rcases hn with rfl | rfl
  · exact pwmOut_of_disabled hoff
  · exact pwmOut_of_disabled ((congrArg (·.getLsbD (slotShift c)) (ccer_modeReg c _ _ _)).trans hoff)

end

/-- Settles O13: the fields after CHPWM, at its own channel and at another. -/
theorem chpwmConfiguresOneChannel : Obligations.ChpwmConfiguresOneChannel := by
  intro s c x t
  obtain ⟨harpe, hcr1⟩ := cr1Fields_chpwmOps c x s
  have hccrA : t.ccrA.get c = if s.ocPreload c then s.ccrA.get c else x := by
    rw [ccrA_chpwmOps]
    split <;> simp
  have hothers (d : Channel) (hd : d ≠ c) : t.ccr.get d = s.ccr.get d ∧ t.ccrA.get d = s.ccrA.get d ∧
      t.cfgd.get d = s.cfgd.get d := by
    rw [ccr_chpwmOps, ccrA_chpwmOps, cfgd_chpwmOps_eq]
    refine ⟨Quad.get_set_ne _ _ _ _ hd, ?_, Quad.get_set_ne _ _ _ _ hd⟩
    split
    · rfl
    · exact Quad.get_set_ne _ _ _ _ hd
  refine ⟨⟨?_, ?_, ?_, ?_, harpe⟩, ⟨cfgd_chpwmOps c x s, ?_⟩, hccrA, hcr1,
    fun d hd => ⟨?_, ?_, ?_, ?_, hothers d hd⟩, chpwmOps_frame c x s, fun n => pwmOut_chpwmOps_take c x s⟩
  · exact (ocMode_chpwmOps c c x s).trans (if_pos rfl)
  · exact (ccEnable_chpwmOps c c x s).trans (if_pos rfl)
  · exact (ccPolarity_chpwmOps c c x s).trans (if_pos rfl)
  · exact (ocPreload_chpwmOps c c x s).trans (if_pos rfl)
  · rw [ccr_chpwmOps, Quad.get_set_self]
  · exact (ocMode_chpwmOps c d x s).trans (if_neg hd)
  · exact (ocPreload_chpwmOps c d x s).trans (if_neg hd)
  · exact (ccEnable_chpwmOps c d x s).trans (if_neg hd)
  · exact (ccPolarity_chpwmOps c d x s).trans (if_neg hd)

end Sys2Proof.Machine
end

section
/-! START, INITMOTOR, the state after it, and the two ways to initialise (spec/40_timer_channel_programmer.md R132 to
R136). -/

namespace Sys2Proof.Machine

/-! ### START (R132) -/

theorem maskedUpdate_of_clr_zero {n : Nat} (mask set w : BitVec n) :
    maskedUpdate mask 0#n set w = (w ||| set) &&& mask := by
  simp [maskedUpdate]

theorem performAll_startOps (s : State) :
    performAll startOps s = { s with cr1 := (s.cr1 ||| 1#32) &&& 0x3F1#32, initDone := true } :=
  congrArg (fun w => { s with cr1 := w, initDone := true }) (maskedUpdate_of_clr_zero cr1Mask 1#32 s.cr1)

/-- Settles O14: the flags that START's check asks for, and the effects of its two micro-operations. -/
theorem startCompletes : Obligations.StartCompletes := fun s hready htb hcfgd =>
  ⟨exec_of_planOf_ok (i := .start) hready (startPlan_of_completed htb hcfgd), performAll_startOps s⟩

/-! ### INITMOTOR (R133, R134) -/

theorem initmotorPlan_of_not_initDone {s : State} (h : s.initDone = false) :
    initmotorPlan s = .ok (initmotorOps s.cfg) := by
  simp [initmotorPlan, h]

/-- Settles O15: INITMOTOR's only check is INIT_DONE; with the build constants the bits that its TIMEBASE sets in CR1
are 0. -/
theorem initmotorCompletes : Obligations.InitmotorCompletes := fun s hready hinit =>
  ⟨initmotorOps s.cfg, exec_of_planOf_ok (i := .initmotor) hready (initmotorPlan_of_not_initDone hinit), rfl, rfl⟩

/-- The all-off pass of R133, after the external calls. -/
def allOffOps : List MicroOp :=
  [ .x .clockEnable, .x .gpioConfigurePwmPins, .x .gpioConfigureDirPins,
    .p .p1 false false, .p .p2 false false, .p .p3 false false ]

theorem performAll_initmotorOps (p : Params) (s : State) : performAll (initmotorOps p) s =
    performAll (timebaseOps motorCkd motorMode (p.prescalerPwm.setWidth 32) p.periodPwm ++ chpwmOps .c1 initCompare ++
      chpwmOps .c2 initCompare ++ chpwmOps .c3 initCompare ++ chpwmOps .c4 initCompare ++ startOps)
      (performAll allOffOps s) := by
  simp only [initmotorOps, performAll_append, allOffOps]

theorem performAll_allOffOps {s : State} (hA : s.dirA = Triple.all false) (hB : s.dirB = Triple.all false) :
    performAll allOffOps s = s := by
  cases s
  cases hA
  cases hB
  rfl

/-- The four CHPWM of INITMOTOR. -/
def allChpwmOps : List MicroOp :=
  chpwmOps .c1 initCompare ++ chpwmOps .c2 initCompare ++ chpwmOps .c3 initCompare ++ chpwmOps .c4 initCompare

theorem performAll_allChpwmOps (s : State) : performAll allChpwmOps s =
    performAll (chpwmOps .c4 initCompare) (performAll (chpwmOps .c3 initCompare)
      (performAll (chpwmOps .c2 initCompare) (performAll (chpwmOps .c1 initCompare) s))) := by
  simp only [allChpwmOps, performAll_append]

/-- The four channels configured, from registers that are 0. -/
theorem allChpwmOps_of_zero {s : State} (hcr1 : s.cr1 = 0#32) (hccmr1 : s.ccmr1 = 0#32) (hccmr2 : s.ccmr2 = 0#32)
    (hccer : s.ccer = 0#32) (hccr : s.ccr = Quad.all 0#32) (hccrA : s.ccrA = Quad.all 0#32) :
    performAll allChpwmOps s =
      { s with cr1 := 0x80#32, ccmr1 := 0x6868#32, ccmr2 := 0x6868#32, ccer := 0x1111#32, cfgd := Quad.all true } := by
  rw [performAll_allChpwmOps]
  have hframe := (((chpwmOps_frame .c1 initCompare s).trans (chpwmOps_frame .c2 initCompare _)).trans
    (chpwmOps_frame .c3 initCompare _)).trans (chpwmOps_frame .c4 initCompare _)
  have hword (c : Channel) : s.modeWord c = 0#32 := by cases c <;> assumption
  have hpreload (c : Channel) : s.ocPreload c = false := by simp [State.ocPreload, hword]
  generalize ht : performAll (chpwmOps .c4 initCompare) _ = t at hframe ⊢
  have h1 : t.cr1 = 0x80#32 := by
    rw [← ht]
    simp only [cr1_chpwmOps, hcr1]
    rfl
  have h2 (c : Channel) : t.modeWord c = 0x6868#32 := by
    rw [← ht]
    simp only [modeWord_chpwmOps, hword]
    cases c <;> rfl
  have h3 : t.ccer = 0x1111#32 := by
    rw [← ht]
    simp only [ccer_chpwmOps, hccer]
    rfl
  have h4 : t.ccr = s.ccr := by
    rw [← ht]
    simp only [ccr_chpwmOps, hccr]
    rfl
  have h5 : t.ccrA = s.ccrA := by
    rw [← ht]
    simp [ccrA_chpwmOps, ocPreload_chpwmOps, hpreload, hccrA]
    rfl
  have h6 : t.cfgd = Quad.all true := by
    rw [← ht]
    simp only [cfgd_chpwmOps_eq]
    rfl
  rw [hframe, h1, show t.ccmr1 = _ from h2 .c1, show t.ccmr2 = _ from h2 .c3, h3, h4, h5, h6]

/-- Settles O16: the all-off pass finds the pins off; TIMEBASE leaves the counter and the compare values as after reset,
and the channels are configured from cleared registers. -/
theorem stateAfterInitmotor : Obligations.StateAfterInitmotor := by
  intro p e s t
  have hcr1 : maskedUpdate cr1Mask 0x370#32 ((motorMode.setWidth 32 <<< 4) ||| (motorCkd.setWidth 32 <<< 8)) 0#32 =
      0#32 := rfl
  have hcen : (0x80#32 ||| 1#32) &&& 0x3F1#32 = 0x81#32 := rfl
  have hprescaler : (p.prescalerPwm.setWidth 32).setWidth 16 = p.prescalerPwm := by simp
  have ht : t = { s with
          cr1 := 0x81#32, ccmr1 := 0x6868#32, ccmr2 := 0x6868#32, ccer := 0x1111#32
          arr := p.periodPwm, arrA := p.periodPwm, psc := p.prescalerPwm, pscA := p.prescalerPwm
          tbDone := true, cfgd := Quad.all true, initDone := true } := by
    calc t = performAll startOps (performAll allChpwmOps (performAll (timebaseOps motorCkd motorMode
              (p.prescalerPwm.setWidth 32) p.periodPwm) (performAll allOffOps s))) := by
            simp only [t, performAll_initmotorOps, performAll_append, performAll_allChpwmOps]
      _ = _ := by
            rw [performAll_allOffOps rfl rfl, performAll_timebaseOps, hprescaler,
              allChpwmOps_of_zero hcr1 rfl rfl rfl rfl rfl, performAll_startOps]
            dsimp only
            rw [hcen]
            rfl
  refine ⟨ht, fun c => ?_⟩
  have hword : t.modeWord c = 0x6868#32 := by rw [ht]; cases c <;> rfl
  have hmode : t.ocMode c = 6#3 := by rw [State.ocMode, hword]; cases c <;> rfl
  have hccer : t.ccer = 0x1111#32 := by rw [ht]
  have hpol : t.ccPolarity c = false := by rw [State.ccPolarity, hccer]; cases c <;> rfl
  have hen : t.ccEnable c = true := by rw [State.ccEnable, hccer]; cases c <;> rfl
  have hoff : decide (t.cnt.toNat < (t.ccrA.get c).toNat) = false := by rw [ht]; cases c <;> rfl
  rw [pwmOut_of_enabled hen (ocRef_of_pwm1 hmode), hoff, hpol]
  rfl

end Sys2Proof.Machine
end

section
/-! The two ways to initialise (spec/40_timer_channel_programmer.md R136); SIGN, DUTY and TORQUE
(spec/42_direction_controller.md R171, spec/41_duty_cycle_controller.md R152, R153); the frame of a register write
(spec/20_memory.md R87) and the operand tables (spec/30_encoding.md R103 to R106). -/

namespace Sys2Proof.Machine

/-! ### Two CHPWM on different channels (R136) -/

theorem Quad.set_comm {α : Type} (v : Quad α) {c d : Channel} (h : c ≠ d) (x y : α) :
    (v.set c x).set d y = (v.set d y).set c x := by
  cases c <;> cases d <;> first | rfl | exact absurd rfl h

/-- States that differ from one state in what CHPWM writes only are equal where they agree on that. -/
theorem ChannelFrame.ext {s t u : State} (ht : ChannelFrame s t) (hu : ChannelFrame s u) (hcr1 : t.cr1 = u.cr1)
    (hword : ∀ c : Channel, t.modeWord c = u.modeWord c) (hccer : t.ccer = u.ccer) (hccr : t.ccr = u.ccr)
    (hccrA : t.ccrA = u.ccrA) (hcfgd : t.cfgd = u.cfgd) : t = u := by
  have hccmr1 : t.ccmr1 = u.ccmr1 := hword .c1
  have hccmr2 : t.ccmr2 = u.ccmr2 := hword .c3
  rw [ht, hu, hcr1, hccmr1, hccmr2, hccer, hccr, hccrA, hcfgd]

section
variable (c d : Channel) (x y : Word) (s : State)

/-- Neither update of CCER sets what the other clears. -/
theorem ccer_chpwmOps_comm : (performAll (chpwmOps d y) (performAll (chpwmOps c x) s)).ccer =
    (performAll (chpwmOps c x) (performAll (chpwmOps d y) s)).ccer := by
  simp only [ccer_chpwmOps, maskedUpdate_maskedUpdate]
  congr 1
  · exact BitVec.or_comm ..
  · cases c <;> cases d <;> rfl

/-- Neither update of a mode register sets what the other clears. -/
theorem modeWord_chpwmOps_comm (k : Channel) :
    (performAll (chpwmOps d y) (performAll (chpwmOps c x) s)).modeWord k =
      (performAll (chpwmOps c x) (performAll (chpwmOps d y) s)).modeWord k := by
  simp only [modeWord_chpwmOps]
  split
  case isFalse => rfl
  case isTrue =>
    split
    case isFalse => rfl
    case isTrue =>
      simp only [maskedUpdate_maskedUpdate]
      congr 1
      · exact BitVec.or_comm ..
      · cases c <;> cases d <;> rfl

end

theorem ccrA_chpwmOps_comm {c d : Channel} (hne : c ≠ d) (x y : Word) (s : State) :
    (performAll (chpwmOps d y) (performAll (chpwmOps c x) s)).ccrA =
    (performAll (chpwmOps c x) (performAll (chpwmOps d y) s)).ccrA := by
  simp only [ccrA_chpwmOps, ocPreload_chpwmOps, if_neg hne, if_neg hne.symm]
  split <;> split <;> first | rfl | exact Quad.set_comm _ hne _ _

theorem performAll_chpwmOps_comm {c d : Channel} (hne : c ≠ d) (x y : Word) (s : State) :
    performAll (chpwmOps d y) (performAll (chpwmOps c x) s) =
      performAll (chpwmOps c x) (performAll (chpwmOps d y) s) := by
  have hframe (a b : Channel) (v w : Word) : ChannelFrame s (performAll (chpwmOps a v) (performAll (chpwmOps b w) s)) :=
    (chpwmOps_frame b w s).trans (chpwmOps_frame a v _)
  refine ChannelFrame.ext (hframe d c y x) (hframe c d x y) ?_ (modeWord_chpwmOps_comm c d x y s)
    (ccer_chpwmOps_comm c d x y s) ?_ (ccrA_chpwmOps_comm hne x y s) ?_
  · simp only [cr1_chpwmOps]
  · simp only [ccr_chpwmOps, Quad.set_comm _ hne]
  · simp only [cfgd_chpwmOps_eq, Quad.set_comm _ hne]

/-- Settles O17: with the pins off the all-off pass changes nothing, and the rest of INITMOTOR's list is the component
commands; two CHPWM write different slots, bytes and entries. -/
theorem componentCommandsInitialise : Obligations.ComponentCommandsInitialise := by
  constructor
  · intro p s hA hB
    rw [performAll_initmotorOps, performAll_allOffOps hA hB]
    rfl
  · intro c d x y s hne
    rw [performAll_append, performAll_append]
    exact performAll_chpwmOps_comm hne x y s

/-! ### SIGN (R171) -/

theorem signPlan_of_checks {s : State} {ch : BitVec 4} {m : Pair} {v : F64} (hinit : s.initDone = true)
    (hm : pairOf ch = some m) (hn : isNaN v = false) : signPlan ch v s = .ok (signOps s.cfg m v) := by
  simp [signPlan, hinit, hm, hn]

/-- Settles O18: the operand passes the checks of SIGN, and P and Z write the latches and the result registers. -/
theorem signCompletes : Obligations.SignCompletes := fun _ ch _ v hready hinit hm hn =>
  ⟨exec_of_planOf_ok (i := .sign ch v) hready (signPlan_of_checks hinit hm hn), rfl⟩

/-! ### DUTY (R152) -/

theorem dutyPlan_of_checks {s : State} {ch : BitVec 4} {m : Channel} {d : F64} (hinit : s.initDone = true)
    (hm : channelOf ch = some m) (hn : isNaN d = false) : dutyPlan ch d s = .ok (dutyOps s.cfg m d) := by
  simp [dutyPlan, hinit, hm, hn]

/-- Settles O19: the count is SCALE of the clamped duty, and its write waits in the pending register. -/
theorem dutyCompletes : Obligations.DutyCompletes := fun s ch _ d hready hinit hm hn =>
  ⟨(scale_clamp01 s.cfg hn).1, exec_of_planOf_ok (i := .duty ch d) hready (dutyPlan_of_checks hinit hm hn),
    regWrite_ccr_of_preload _, regRead_regWrite_ccr _ _ s⟩

/-! ### TORQUE (R153) -/

/-- Settles O20: with a count the plan of TORQUE is P, S and W, and W waits in the pending register. -/
theorem torqueCompletes : Obligations.TorqueCompletes := by
  intro s ch m t n hready hinit hm hn hcount dir c ops
  refine ⟨exec_of_planOf_ok (i := .torque ch t) hready (torquePlan_of_count hinit hm hn hcount), fun hpreload => ?_⟩
  exact regWrite_ccr_of_preload (s := performAll (ops.take 2) s) n hpreload

/-! ### The frame of a register write (R87) -/

theorem regRead_regWrite_ne {r r' : TimerReg} (hegr : r ≠ .egr) (hne : r' ≠ r) (v : Word) (s : State) :
    regRead r' (regWrite r v s) = regRead r' s := by
  cases r with
  | egr => exact absurd rfl hegr
  | ccr c =>
    cases r' with
    | ccr d => exact Quad.get_set_ne s.ccr c d v fun h => hne (h ▸ rfl)
    | _ => rfl
  | _ => cases r' <;> first | rfl | exact absurd rfl hne

/-- Settles O32: each write but that of EGR is of its own register, and of the active register behind it. -/
theorem registerWriteFrame : Obligations.RegisterWriteFrame := by
  intro r r' v s hegr hne
  refine ⟨regRead_regWrite_ne hegr hne v s, ?_⟩
  cases r with
  | egr => exact absurd rfl hegr
  | _ => rfl

/-! ### The operand tables (R103, R105, R106) -/

theorem channelOf_eq_some_iff (ch : BitVec 4) (c : Channel) : channelOf ch = some c ↔ c.index = ch.toNat := by
  cases c <;> revert ch <;> decide

theorem pairOf_eq_some_iff (ch : BitVec 4) (m : Pair) : pairOf ch = some m ↔ m.channel.index = ch.toNat := by
  cases m <;> revert ch <;> decide

/-- Settles O60: a field names nothing exactly where it is out of range; the other tables are closed. -/
theorem operandTablesAreTheRules : Obligations.OperandTablesAreTheRules := by
  refine ⟨channelOf_eq_some_iff, fun ch => ?_, pairOf_eq_some_iff, fun ch => ?_, rfl, rfl⟩
  · rw [← isSome_channelOf, Option.isSome_eq_false_iff, Option.isNone_iff_eq_none]
  · rw [← isSome_pairOf, Option.isSome_eq_false_iff, Option.isNone_iff_eq_none]

end Sys2Proof.Machine
end

section
/-! The tick and the PWM period (spec/43_timebase_operation.md R190 to R200). -/

namespace Sys2Proof.Machine

/-! ### One tick (R190, R192, R196) -/

/-- The counter is enabled, in mode Up, with a clock division that has a meaning. -/
structure State.CountsUp (s : State) : Prop where
  enabled : s.cen = true
  up : s.counterMode = 0#3
  division : s.ckd ≠ 3#2

theorem tick_of_disabled {s : State} (h : s.cen = false) : tick s = .next s := by
  simp [tick, h]

theorem tick_of_undefinedMode {s : State} (h : s.cen = true) (hmode : s.counterMode ≠ 0#3) :
    tick s = .refused .tickInUndefinedMode := by
  simp [tick, h, hmode]

theorem tick_of_undefinedDivision {s : State} (h : s.cen = true) (hmode : s.counterMode = 0#3) (hckd : s.ckd = 3#2) :
    tick s = .refused .clockDivisionWithoutMeaning := by
  simp [tick, h, hmode, hckd]

section
variable {s : State} (h : s.CountsUp)
include h

theorem tick_of_prescale (hlt : s.pscCnt.toNat < s.pscA.toNat) :
    tick s = .next { s with pscCnt := s.pscCnt + 1#16 } := by
  have hle : ¬ s.pscA ≤ s.pscCnt := by simpa [BitVec.le_def] using hlt
  simp [tick, h.enabled, h.up, h.division, hle]

theorem tick_of_count (hle : s.pscA.toNat ≤ s.pscCnt.toNat) (hne : s.cnt ≠ s.arrA) :
    tick s = .next { s with pscCnt := 0#16, cnt := s.cnt + 1#32 } := by
  have hle : s.pscA ≤ s.pscCnt := hle
  simp [tick, counterStep, h.enabled, h.up, h.division, hle, hne]

theorem tick_of_wrap (hle : s.pscA.toNat ≤ s.pscCnt.toNat) (heq : s.cnt = s.arrA) :
    tick s = .next { s with pscCnt := 0#16, cnt := 0#32, pscA := s.psc, arrA := s.arr, ccrA := s.ccr } := by
  have hle : s.pscA ≤ s.pscCnt := hle
  simp [tick, counterStep, updateEvent, h.enabled, h.up, h.division, hle, heq]

end

/-- Settles O39: one rule per branch of the tick. -/
theorem tickFollowsTheRule : Obligations.TickFollowsTheRule := fun _ =>
  ⟨tick_of_disabled, tick_of_undefinedMode, tick_of_undefinedDivision, fun hcen hmode hckd =>
    have h := ⟨hcen, hmode, hckd⟩
    ⟨tick_of_prescale h, tick_of_count h, tick_of_wrap h⟩⟩

/-- Settles O40: of the ways a tick can go only the wrap writes the active registers, and all of them. -/
theorem tickFrame : Obligations.TickFrame := by
  intro s t h
  rcases tick_cases h with ⟨-, rfl⟩ | ⟨-, -, -, ⟨-, rfl⟩ | ⟨-, -, rfl⟩ | ⟨-, -, rfl⟩⟩
  · exact ⟨rfl, .inl ⟨rfl, rfl, rfl⟩⟩
  · exact ⟨rfl, .inl ⟨rfl, rfl, rfl⟩⟩
  · exact ⟨rfl, .inl ⟨rfl, rfl, rfl⟩⟩
  · exact ⟨rfl, .inr ⟨rfl, rfl, rfl⟩⟩

/-- The branch of a tick does not depend on the fault latch. -/
theorem tick_raiseFault (c : Cause) (cw : Half) (s : State) :
    (∃ t, tick s = .next t ∧ tick (raiseFault c cw s) = .next (raiseFault c cw t)) ∨
      ∃ r, tick s = .refused r ∧ tick (raiseFault c cw s) = .refused r := by
  let f := raiseFault c cw s
  by_cases hcen : s.cen = true
  case neg =>
    have hcen : s.cen = false := eq_false_of_ne_true hcen
    exact .inl ⟨s, tick_of_disabled hcen, tick_of_disabled (s := f) hcen⟩
  by_cases hmode : s.counterMode = 0#3
  case neg => exact .inr ⟨_, tick_of_undefinedMode hcen hmode, tick_of_undefinedMode (s := f) hcen hmode⟩
  by_cases hckd : s.ckd = 3#2
  case pos =>
    exact .inr ⟨_, tick_of_undefinedDivision hcen hmode hckd, tick_of_undefinedDivision (s := f) hcen hmode hckd⟩
  have h : s.CountsUp := ⟨hcen, hmode, hckd⟩
  have hf : f.CountsUp := ⟨hcen, hmode, hckd⟩
  rcases lt_or_ge s.pscCnt.toNat s.pscA.toNat with hlt | hle
  · exact .inl ⟨_, tick_of_prescale h hlt, tick_of_prescale hf hlt⟩
  by_cases heq : s.cnt = s.arrA
  · exact .inl ⟨_, tick_of_wrap h hle heq, tick_of_wrap hf hle heq⟩
  · exact .inl ⟨_, tick_of_count h hle heq, tick_of_count hf hle heq⟩

/-- Settles O30: a tick has one outcome, which the fault latch does not change. -/
theorem faultDoesNotStopTheTimebase : Obligations.FaultDoesNotStopTheTimebase := by
  intro s t c cw
  rcases tick_raiseFault c cw s with ⟨u, hs, hf⟩ | ⟨r, hs, hf⟩
  · exact ⟨fun h => by rw [hf, Host.Outcome.next.inj (hs.symm.trans h)], fun r h => absurd (hs.symm.trans h) nofun⟩
  · exact ⟨fun h => absurd (hs.symm.trans h) nofun, fun r' h => by rw [hf, Host.Outcome.refused.inj (hs.symm.trans h)]⟩

/-! ### Several ticks -/

theorem ticks_add {j : Nat} {s t : State} (h : ticks j s = .next t) (k : Nat) : ticks (j + k) s = ticks k t := by
  induction j generalizing s with
  | zero =>
    cases h
    rw [Nat.zero_add]
  | succ j ih =>
    rw [Nat.succ_add, ticks]
    rw [ticks] at h
    cases htick : tick s with
    | next u => rw [htick] at h; exact ih h
    | fault f => rw [htick] at h; cases h
    | refused r => rw [htick] at h; cases h

theorem ticks_one (s : State) : ticks 1 s = tick s := by
  rw [ticks]
  cases tick s <;> rfl

theorem ticks_succ {k : Nat} {s t : State} (h : ticks k s = .next t) : ticks (k + 1) s = tick t := by
  rw [ticks_add h, ticks_one]

/-! ### The period (R197, R198) -/

/-- Where the counters stand `k` ticks after the start of a period. -/
def State.atTick (s : State) (k : Nat) : State :=
  { s with pscCnt := BitVec.ofNat 16 (k % s.ticksPerCount), cnt := BitVec.ofNat 32 (k / s.ticksPerCount) }

/-- The next tick is of the same count. -/
theorem succ_div_mod_of_lt {k n : Nat} (h : k % n + 1 < n) : (k + 1) / n = k / n ∧ (k + 1) % n = k % n + 1 := by
  rw [Nat.div_mod_unique (Nat.zero_lt_of_lt h)]
  have hk := Nat.mod_add_div k n
  exact ⟨by omega, h⟩

/-- The next tick is the first of the next count. -/
theorem succ_div_mod_of_eq {k n : Nat} (h : k % n + 1 = n) : (k + 1) / n = k / n + 1 ∧ (k + 1) % n = 0 := by
  have hn : 0 < n := h ▸ Nat.succ_pos _
  rw [Nat.div_mod_unique hn, Nat.mul_succ]
  have hk := Nat.mod_add_div k n
  exact ⟨by omega, hn⟩

theorem ticksPerCount_pos (s : State) : 0 < s.ticksPerCount := Nat.succ_pos _

theorem div_ticksPerCount_lt {s : State} {k : Nat} (hk : k < s.periodTicks) :
    k / s.ticksPerCount < s.arrA.toNat + 1 := Nat.div_lt_of_lt_mul hk

theorem atTick_pscCnt_toNat (s : State) (k : Nat) : (s.atTick k).pscCnt.toNat = k % s.ticksPerCount := by
  have hlt : k % s.ticksPerCount < 2 ^ 16 := (Nat.mod_lt k (ticksPerCount_pos s)).trans_le s.pscA.isLt
  rw [State.atTick, BitVec.toNat_ofNat, Nat.mod_eq_of_lt hlt]

theorem atTick_cnt_toNat {s : State} {k : Nat} (hk : k < s.periodTicks) :
    (s.atTick k).cnt.toNat = k / s.ticksPerCount := by
  have hlt : k / s.ticksPerCount < 2 ^ 32 := (div_ticksPerCount_lt hk).trans_le s.arrA.isLt
  rw [State.atTick, BitVec.toNat_ofNat, Nat.mod_eq_of_lt hlt]

section
variable {s : State} (h : s.PeriodStart)
include h

theorem atTick_zero : s.atTick 0 = s := by
  rw [State.atTick, Nat.zero_mod, Nat.zero_div, show BitVec.ofNat 16 0 = s.pscCnt from h.prescale.symm,
    show BitVec.ofNat 32 0 = s.cnt from h.count.symm]

theorem atTick_countsUp (k : Nat) : (s.atTick k).CountsUp := ⟨h.enabled, h.up, h.division⟩

/-- A tick inside the period: the prescaler counter goes on, or wraps and the counter takes a step. -/
theorem tick_atTick {k : Nat} (hk : k + 1 < s.periodTicks) : tick (s.atTick k) = .next (s.atTick (k + 1)) := by
  have hpsc := atTick_pscCnt_toNat s k
  have hcnt := atTick_cnt_toNat (Nat.lt_of_succ_lt hk)
  have hlast := Nat.mod_lt k (ticksPerCount_pos s)
  rcases lt_or_ge (k % s.ticksPerCount) s.pscA.toNat with hlt | hge
  · obtain ⟨hdiv, hmod⟩ := succ_div_mod_of_lt (Nat.succ_lt_succ hlt : k % s.ticksPerCount + 1 < s.ticksPerCount)
    rw [tick_of_prescale (atTick_countsUp h k) (hpsc.trans_lt hlt), State.atTick, State.atTick, hdiv, hmod,
      BitVec.ofNat_add]
  · obtain ⟨hdiv, hmod⟩ := succ_div_mod_of_eq (Nat.le_antisymm hlast (Nat.succ_le_succ hge))
    have hne : (s.atTick k).cnt ≠ (s.atTick k).arrA := by
      intro heq
      have hbound := div_ticksPerCount_lt hk
      rw [hdiv, ← hcnt, heq] at hbound
      exact Nat.lt_irrefl _ hbound
    rw [tick_of_count (atTick_countsUp h k) (hge.trans_eq hpsc.symm) hne, State.atTick, State.atTick, hdiv, hmod,
      BitVec.ofNat_add]

theorem ticks_atTick {k : Nat} (hk : k < s.periodTicks) : ticks k s = .next (s.atTick k) := by
  induction k with
  | zero => rw [atTick_zero h, ticks]
  | succ k ih => rw [ticks_succ (ih (Nat.lt_of_succ_lt hk)), tick_atTick h hk]

/-- The tick that ends the period: both counters stand at their last value, and the update event comes with the wrap
(R193). -/
theorem ticks_periodTicks : ticks s.periodTicks s = .next { s with pscA := s.psc, arrA := s.arr, ccrA := s.ccr } := by
  have hN := ticksPerCount_pos s
  obtain ⟨k, hk⟩ : ∃ k, s.periodTicks = k + 1 := Nat.exists_eq_succ_of_ne_zero (Nat.mul_pos hN (Nat.succ_pos _)).ne'
  have hlast : k / s.ticksPerCount = s.arrA.toNat ∧ k % s.ticksPerCount = s.pscA.toNat := by
    rw [Nat.div_mod_unique hN]
    have hperiod : s.periodTicks = s.ticksPerCount * s.arrA.toNat + s.ticksPerCount := Nat.mul_succ ..
    have hticks : s.ticksPerCount = s.pscA.toNat + 1 := rfl
    omega
  have hlt : k < s.periodTicks := hk ▸ Nat.lt_succ_self k
  have hpsc : s.pscA.toNat ≤ (s.atTick k).pscCnt.toNat := by rw [atTick_pscCnt_toNat, hlast.2]
  have hcnt : (s.atTick k).cnt = s.arrA := BitVec.eq_of_toNat_eq (by rw [atTick_cnt_toNat hlt, hlast.1])
  rw [hk, ticks_succ (ticks_atTick h hlt), tick_of_wrap (atTick_countsUp h k) hpsc hcnt, ← h.count, ← h.prescale]
  rfl

end

/-- Settles O42: by induction on the ticks inside the period, and one more tick at its end. -/
theorem pwmPeriodLaw : Obligations.PwmPeriodLaw := fun _ h => ⟨fun _ hk => ticks_atTick h hk, ticks_periodTicks h⟩

/-! ### The duty fraction (R199) -/

/-- The output of a PWM mode 1 channel, enabled and active-high, follows the counter (R51, R54). -/
theorem highAfter_iff {s : State} {c : Channel} (h : s.PeriodStart) (hmode : s.ocMode c = 6#3)
    (hen : s.ccEnable c = true) (hpol : s.ccPolarity c = false) {k : Nat} (hk : k < s.periodTicks) :
    highAfter c s k = decide (k < s.ticksPerCount * (s.ccrA.get c).toNat) := by
  have hout : (s.atTick k).pwmOut c = some (decide ((s.atTick k).cnt.toNat < (s.ccrA.get c).toNat)) :=
    (pwmOut_of_enabled (s := s.atTick k) hen (ocRef_of_pwm1 hmode)).trans (by
      rw [show (s.atTick k).ccPolarity c = false from hpol, Bool.bne_false]; rfl)
  have hiff : (s.atTick k).cnt.toNat < (s.ccrA.get c).toNat ↔ k < s.ticksPerCount * (s.ccrA.get c).toNat := by
    rw [atTick_cnt_toNat hk, Nat.div_lt_iff_lt_mul (ticksPerCount_pos s), Nat.mul_comm]
  simp only [highAfter, ticks_atTick h hk, hout, Option.some.injEq, decide_eq_true_eq, hiff]

theorem length_filter_range_lt (n m : Nat) : ((List.range n).filter (fun k => decide (k < m))).length = min m n := by
  induction n with
  | zero => simp
  | succ n ih =>
    rw [List.range_succ, List.filter_append, List.length_append, ih]
    by_cases h : n < m <;> simp [h] <;> omega

/-- Settles O43: of the `N × (ARR_A + 1)` ticks those below `N × CCRc_A` are high. -/
theorem dutyFraction : Obligations.DutyFraction := by
  intro s c h hmode hen hpol
  have hfilter : (List.range s.periodTicks).filter (highAfter c s) =
      (List.range s.periodTicks).filter (fun k => decide (k < s.ticksPerCount * (s.ccrA.get c).toNat)) :=
    List.filter_congr fun k hk => highAfter_iff h hmode hen hpol (List.mem_range.mp hk)
  rw [hfilter, length_filter_range_lt, State.periodTicks, Nat.mul_min_mul_left]

end Sys2Proof.Machine
end

section
/-! A preloaded write inside a period (spec/43_timebase_operation.md R200). -/

namespace Sys2Proof.Machine

/-- The state with which the next period begins: that of R197 with the preload registers copied (R193, R194). -/
def State.nextPeriod (s : State) : State := { s with pscA := s.psc, arrA := s.arr, ccrA := s.ccr }

theorem nextPeriod_periodStart {s : State} (h : s.PeriodStart) : s.nextPeriod.PeriodStart :=
  ⟨h.enabled, h.up, h.division, h.count, h.prescale⟩

/-- A write that changes the same preload register whatever the tick acts as if it had been made at the start of the
period: `s'` is the state it would have started from. -/
theorem ticks_after_preloaded_write {s s' : State} {r : TimerReg} {v : Word} {k j : Nat} (h : s.PeriodStart)
    (h' : s'.PeriodStart) (hwrite : ∀ i, regWrite r v (s.atTick i) = s'.atTick i)
    (hperiod : s'.periodTicks = s.periodTicks) (hout : ∀ i d, (s'.atTick i).pwmOut d = (s.atTick i).pwmOut d)
    (hk : k < s.periodTicks) :
    ∃ t : State, ticks k s = .next t ∧
      (k + j < s.periodTicks →
        ∃ u w : State, ticks j (regWrite r v t) = .next u ∧ ticks (k + j) s = .next w ∧
          u = regWrite r v w ∧ ∀ d : Channel, u.pwmOut d = w.pwmOut d) ∧
      (k + j = s.periodTicks → ticks j (regWrite r v t) = .next s'.nextPeriod) := by
  have hrest : ticks j (regWrite r v (s.atTick k)) = ticks (k + j) s' := by
    rw [hwrite, ticks_add (ticks_atTick h' (hk.trans_eq hperiod.symm))]
  refine ⟨s.atTick k, ticks_atTick h hk, fun hin => ?_, fun hend => ?_⟩
  · exact ⟨s'.atTick (k + j), s.atTick (k + j), hrest.trans (ticks_atTick h' (hin.trans_eq hperiod.symm)),
      ticks_atTick h hin, (hwrite _).symm, hout _⟩
  · rw [hrest, hend, ← hperiod]
    exact ticks_periodTicks h'

/-- Settles O44: the pending registers are read by no output and by no tick but the one that ends the period, which
copies them. -/
theorem preloadSafety : Obligations.PreloadSafety := by
  constructor
  · intro s c v k j h hpreload hk
    let s' : State := { s with ccr := s.ccr.set c v }
    have h' : s'.PeriodStart := ⟨h.enabled, h.up, h.division, h.count, h.prescale⟩
    have hwrite (i : Nat) : regWrite (.ccr c) v (s.atTick i) = s'.atTick i :=
      regWrite_ccr_of_preload (s := s.atTick i) v hpreload
    obtain ⟨t, ht, hin, hend⟩ := ticks_after_preloaded_write (j := j) h h' hwrite rfl (fun _ _ => rfl) hk
    exact ⟨t, ht, hin, fun heq => ⟨_, hend heq, nextPeriod_periodStart h', Quad.get_set_self s.ccr c v,
      fun d hd => Quad.get_set_ne s.ccr c d v hd⟩⟩
  · intro s v k j h harpe hk
    let s' : State := { s with arr := v }
    have h' : s'.PeriodStart := ⟨h.enabled, h.up, h.division, h.count, h.prescale⟩
    have hwrite (i : Nat) : regWrite .arr v (s.atTick i) = s'.atTick i :=
      regWrite_arr_of_preload (s := s.atTick i) v harpe
    obtain ⟨t, ht, hin, hend⟩ := ticks_after_preloaded_write (j := j) h h' hwrite rfl (fun _ _ => rfl) hk
    exact ⟨t, ht, hin, fun heq => ⟨_, hend heq, nextPeriod_periodStart h', rfl, fun _ => rfl⟩⟩

end Sys2Proof.Machine
end

section
/-! Rounding and SCALE keep the order, and integers below `2 ^ 32` exactly (spec/00_scope.md R18,
spec/41_duty_cycle_controller.md R151); what follows for the counts of DUTY and TORQUE (R155, R159). -/

namespace Sys2Proof.Machine

/-! ### `rne` keeps the order (R18) -/

theorem floor_le_nearestEven (r : ℚ) : ⌊r⌋ ≤ nearestEven r := by
  unfold nearestEven
  split_ifs <;> omega

theorem nearestEven_le_floor_add_one (r : ℚ) : nearestEven r ≤ ⌊r⌋ + 1 := by
  unfold nearestEven
  split_ifs <;> omega

theorem nearestEven_intCast (n : ℤ) : nearestEven n = n := by
  simp [nearestEven]

/-- With different integer parts the order is theirs; with the same integer part the greater fraction rounds up where
the smaller one does. -/
theorem nearestEven_mono {r s : ℚ} (h : r ≤ s) : nearestEven r ≤ nearestEven s := by
  rcases (Int.floor_le_floor h).lt_or_eq with hlt | heq
  · have hr := nearestEven_le_floor_add_one r
    have hs := floor_le_nearestEven s
    omega
  · have hfrac : r - ⌊r⌋ ≤ s - ⌊s⌋ := by rw [heq]; linarith
    unfold nearestEven
    rw [heq] at hfrac ⊢
    split_ifs <;> first | omega | (exfalso; linarith)

/-! ### `round64` keeps the order (R18) -/

/-- The significand of R18 is at most `2 ^ 53`. -/
theorem nearestEven_significand_le (q : ℚ) : nearestEven (q * 2 ^ (52 - roundExponent q)) ≤ 2 ^ 53 := by
  have hlog : q < 2 ^ (roundExponent q + 1) :=
    (Int.lt_zpow_succ_log_self one_lt_two q).trans_le
      (zpow_le_zpow_right₀ one_le_two (by unfold roundExponent; omega))
  have hle : q * 2 ^ (52 - roundExponent q) ≤ ((2 ^ 53 : ℤ) : ℚ) := by
    calc q * 2 ^ (52 - roundExponent q) ≤ 2 ^ (roundExponent q + 1) * 2 ^ (52 - roundExponent q) := by gcongr
      _ = 2 ^ (53 : ℤ) := by rw [← zpow_add₀ two_ne_zero]; congr 1; ring
      _ = ((2 ^ 53 : ℤ) : ℚ) := by norm_num
  exact (nearestEven_mono hle).trans_eq (nearestEven_intCast _)

section
variable {q : ℚ} (hq : 0 < q)
include hq

/-- Above the lowest binade the significand of R18 is at least `2 ^ 52`. -/
theorem le_nearestEven_significand (hexp : -1022 < roundExponent q) :
    2 ^ 52 ≤ nearestEven (q * 2 ^ (52 - roundExponent q)) := by
  have hlog : roundExponent q = Int.log 2 q := by
    unfold roundExponent at hexp ⊢
    omega
  have hle : ((2 ^ 52 : ℤ) : ℚ) ≤ q * 2 ^ (52 - roundExponent q) := by
    calc ((2 ^ 52 : ℤ) : ℚ) = 2 ^ (52 : ℤ) := by norm_num
      _ = 2 ^ roundExponent q * 2 ^ (52 - roundExponent q) := by rw [← zpow_add₀ two_ne_zero]; congr 1; ring
      _ ≤ q * 2 ^ (52 - roundExponent q) := by
        gcongr
        rw [hlog]
        exact_mod_cast Int.zpow_log_le_self one_lt_two hq
  exact (nearestEven_intCast _).symm.trans_le (nearestEven_mono hle)

theorem nearestEven_significand_nonneg : 0 ≤ nearestEven (q * 2 ^ (52 - roundExponent q)) :=
  (Int.floor_nonneg.mpr (by positivity)).trans (floor_le_nearestEven _)

end

theorem le_roundExponent (q : ℚ) : -1022 ≤ roundExponent q := le_max_right ..

theorem round64Rule_nonneg {q : ℚ} (hq : 0 ≤ q) : 0 ≤ round64Rule q := by
  unfold round64Rule
  split
  case isTrue => exact le_rfl
  case isFalse hne =>
    have hr := nearestEven_significand_nonneg (lt_of_le_of_ne hq (Ne.symm hne))
    have hexp := le_roundExponent q
    omega

/-- In one binade the order is that of the significands; from one binade to a higher one the pattern passes `2 ^ 52`
times the exponent. -/
theorem round64Rule_mono {q r : ℚ} (hq : 0 ≤ q) (h : q ≤ r) : round64Rule q ≤ round64Rule r := by
  by_cases h0 : q = 0
  · have hzero : round64Rule q = 0 := if_pos h0
    exact hzero.trans_le (round64Rule_nonneg (hq.trans h))
  have hqpos : 0 < q := lt_of_le_of_ne hq (Ne.symm h0)
  have hrpos : 0 < r := hqpos.trans_le h
  rw [round64Rule, round64Rule, if_neg h0, if_neg hrpos.ne']
  apply min_le_min_right
  have hexp : roundExponent q ≤ roundExponent r := max_le_max_right _ (Int.log_mono_right hqpos h)
  rcases hexp.lt_or_eq with hlt | heq
  · have hupper := nearestEven_significand_le q
    have hlower := le_nearestEven_significand hrpos ((le_roundExponent q).trans_lt hlt)
    omega
  · rw [heq]
    gcongr
    apply nearestEven_mono
    gcongr

theorem magnitude_round64_mono {v u : Frac} (h : fracRat v ≤ fracRat u) :
    fracRat (magnitude (round64 v)) ≤ fracRat (magnitude (round64 u)) := by
  rw [← not_lt, fracRat_magnitude_lt_iff (signBit_round64 u) (signBit_round64 v), not_lt]
  have hrule := round64Rule_mono (fracRat_nonneg v) h
  rw [← roundingIsTheRule, ← roundingIsTheRule] at hrule
  exact_mod_cast hrule

/-! ### SCALE keeps the order (R151) -/

theorem floor_mono {v u : Frac} (h : fracRat v ≤ fracRat u) : v.floor ≤ u.floor := by
  have hfloor := Int.floor_le_floor h
  rw [floor_fracRat, floor_fracRat] at hfloor
  exact_mod_cast hfloor

theorem scale_mono {p : Params} {v u : Frac} {a b : ℕ} (h : fracRat v ≤ fracRat u) (ha : scale p v = some a)
    (hb : scale p u = some b) : a ≤ b := by
  have hproduct : fracRat (v.scaleNat p.periodPwm.toNat) ≤ fracRat (u.scaleNat p.periodPwm.toNat) := by
    rw [fracRat_scaleNat, fracRat_scaleNat]
    gcongr
  cases harith : p.arith with
  | exact =>
    rw [scale_of_exact harith] at ha hb
    rw [← Option.some.inj ha, ← Option.some.inj hb]
    exact floor_mono hproduct
  | binary64 =>
    rw [scale_of_binary64 harith, Option.ite_none_left_eq_some] at ha hb
    rw [← Option.some.inj ha.2, ← Option.some.inj hb.2]
    exact floor_mono (magnitude_round64_mono hproduct)

/-- Settles O49: the count is SCALE of the clamped duty, and SCALE keeps the order. -/
theorem dutyIsMonotonic : Obligations.DutyIsMonotonic := by
  intro p d e hd he h
  rw [← fracRat_clamp01 hd, ← fracRat_clamp01 he] at h
  exact scale_mono h (scale_clamp01 p hd).1 (scale_clamp01 p he).1

/-! ### Products that are integers -/

theorem natCast_le_fracRat_iff (v : Frac) (n : ℕ) : (n : ℚ) ≤ fracRat v ↔ n * 2 ^ v.exp ≤ v.num := by
  rw [fracRat, le_div_iff₀ (by positivity)]
  exact_mod_cast Iff.rfl

/-- The unit `2 ^ (j − 1074)` that R18 chooses divides an integer below `2 ^ 32`, so that nothing is rounded off. -/
theorem le_significand_of_eq {n s b : ℕ} (hn : n ≠ 0) (hs : 1074 ≤ s) (hb : b < 2 ^ 32) (h : n = b * 2 ^ s) :
    let j := Nat.log2 n + 1022 - s
    (b : ℚ) ≤ fracRat ⟨roundHalfEven n (s - 1074 + j) * 2 ^ j, 1074⟩ := by
  intro j
  obtain ⟨hj, -⟩ := significand_of_le hn hs hb h.le
  have hsplit : n = b * 2 ^ (1074 - j) * 2 ^ (s - 1074 + j) := by
    rw [mul_assoc, ← pow_add, show 1074 - j + (s - 1074 + j) = s by omega, h]
  have hquot : n / 2 ^ (s - 1074 + j) = b * 2 ^ (1074 - j) :=
    Nat.div_eq_of_eq_mul_left (Nat.two_pow_pos _) hsplit
  have hunit : b * 2 ^ 1074 = b * 2 ^ (1074 - j) * 2 ^ j := by
    rw [mul_assoc, ← pow_add, Nat.sub_add_cancel (by omega)]
  rw [natCast_le_fracRat_iff, hunit, ← hquot]
  exact Nat.mul_le_mul_right _ (div_le_roundHalfEven n _)

/-- An integer below `2 ^ 32` is a binary64 value, and is rounded to itself. -/
theorem round64_of_eq {v : Frac} {b : ℕ} (hb : b < 2 ^ 32) (h : fracRat v = b) :
    round64 v ≠ infBits ∧ fracRat (magnitude (round64 v)) = b := by
  obtain ⟨hfin, hle⟩ := round64_of_le hb h.le
  refine ⟨hfin, hle.antisymm ?_⟩
  by_cases hv : v.num = 0
  · rw [← h, (fracRat_eq_zero_iff v).mpr hv]
    exact fracRat_nonneg _
  have hn : v.num * 2 ^ (1074 - v.exp) ≠ 0 := mul_ne_zero hv (pow_ne_zero _ two_ne_zero)
  have hs : 1074 ≤ max v.exp 1074 := le_max_right ..
  rw [fracRat_eq_over_max, div_eq_iff (by positivity)] at h
  have hvalue : v.num * 2 ^ (1074 - v.exp) = b * 2 ^ max v.exp 1074 := by exact_mod_cast h
  obtain ⟨hr, hr'⟩ := significand_bounds hn hs
  obtain ⟨hj, -⟩ := significand_of_le hn hs hb hvalue.le
  have htoNat := (round64_toNat hv).trans (Nat.min_eq_left (by omega))
  rw [magnitude_of_toNat_eq htoNat (signBit_round64 v) hr hr']
  exact le_significand_of_eq hn hs hb hvalue

theorem floor_of_eq {v : Frac} {b : ℕ} (h : fracRat v = b) : v.floor = b := by
  have hfloor := floor_fracRat v
  rw [h, Int.floor_natCast] at hfloor
  exact_mod_cast hfloor.symm

theorem scale_of_product_eq {p : Params} {v : Frac} {b : ℕ} (hb : b < 2 ^ 32)
    (h : fracRat v * p.periodPwm.toNat = b) : scale p v = some b := by
  rw [← fracRat_scaleNat] at h
  cases harith : p.arith with
  | exact => rw [scale_of_exact harith, floor_of_eq h]
  | binary64 =>
    obtain ⟨hfin, hround⟩ := round64_of_eq hb h
    rw [scale_of_binary64 harith, if_neg hfin, floor_of_eq hround]

/-! ### The bounds of DUTY (R159) -/

theorem dutyCount_of_clampRat_one (p : Params) {d : F64} (hn : isNaN d = false) (h : clampRat d = 1) :
    dutyCount p d = p.periodPwm := by
  have hscale : scale p (clamp01 d) = some p.periodPwm.toNat :=
    scale_of_product_eq p.periodPwm.isLt (by rw [fracRat_clamp01 hn, h, one_mul])
  exact BitVec.eq_of_toNat_eq (Option.some.inj ((scale_clamp01 p hn).1.symm.trans hscale))

theorem dutyCount_of_clampRat_zero (p : Params) {d : F64} (hn : isNaN d = false) (h : clampRat d = 0) :
    dutyCount p d = 0#32 := by
  have hscale : scale p (clamp01 d) = some 0 :=
    scale_of_product_eq (by norm_num) (by rw [fracRat_clamp01 hn, h, zero_mul, Nat.cast_zero])
  exact BitVec.eq_of_toNat_eq (Option.some.inj ((scale_clamp01 p hn).1.symm.trans hscale))

theorem isNaN_of_gt1 {d : F64} (h : gt1 d = true) : isNaN d = false := by
  simp only [gt1, Bool.and_eq_true, Bool.not_eq_true'] at h
  exact h.1.1

theorem isNaN_of_lt0 {d : F64} (h : lt0 d = true) : isNaN d = false := by
  simp only [lt0, Bool.and_eq_true, Bool.not_eq_true'] at h
  exact h.1.1

theorem clampRat_of_lt0 {d : F64} (h : lt0 d = true) : clampRat d = 0 := if_pos h

theorem clampRat_of_gt1 {d : F64} (h : gt1 d = true) : clampRat d = 1 := by
  have hlt : lt0 d = false := lt0_of_signBit_false ((gt1_iff (isNaN_of_gt1 h)).mp h).1
  simp [clampRat, hlt, h]

/-- A zero of either sign is clamped to its value. -/
theorem clampRat_of_isZero {d : F64} (h : isZero d = true) (hgt : gt1 d = false) : clampRat d = 0 := by
  simp [clampRat, lt0_of_isZero h, hgt, valRat_of_isZero h]

theorem clampRat_oneBits : clampRat oneBits = 1 := by
  have hlt : lt0 oneBits = false := by decide
  have hgt : gt1 oneBits = false := by decide
  simp [clampRat, hlt, hgt, valRat_oneBits]

/-- Settles O48: the clamped duty is 1 or 0, and its product with the period an integer. -/
theorem dutySaturates : Obligations.DutySaturates := fun p d =>
  ⟨fun h => dutyCount_of_clampRat_one p (isNaN_of_gt1 h) (clampRat_of_gt1 h),
    fun h => dutyCount_of_clampRat_zero p (isNaN_of_lt0 h) (clampRat_of_lt0 h),
    dutyCount_of_clampRat_one p (by decide) clampRat_oneBits,
    dutyCount_of_clampRat_zero p (by decide) (clampRat_of_isZero (by decide) (by decide)),
    dutyCount_of_clampRat_zero p (by decide) (clampRat_of_isZero (by decide) (by decide))⟩

/-! ### TORQUE with the clamp (R155) -/

theorem fracRat_minOne (v : Frac) : fracRat v.minOne = min (fracRat v) 1 := by
  have hiff : fracRat v ≤ 1 ↔ v.num ≤ 2 ^ v.exp := by simpa using fracRat_le_natCast_iff v 1
  unfold Frac.minOne
  split
  case isTrue h =>
    rw [min_eq_right (not_le.mp (mt hiff.mp h.not_ge)).le]
    simp [fracRat, Frac.one]
  case isFalse h => rw [min_eq_left (hiff.mpr (not_lt.mp h))]

theorem fracRat_extended_minOne_le (x : Extended) : fracRat x.minOne ≤ 1 := by
  cases x with
  | inf => simp [Extended.minOne, fracRat, Frac.one]
  | fin v => exact (fracRat_minOne v).trans_le (min_le_right ..)

theorem torqueCount_of_clamp {p : Params} (h : p.torqueClamp = true) (t : F64) :
    torqueCount p t = countFitting p (torqueDuty p t).minOne := if_pos h

/-- Settles O50: SCALE of a value that is at most 1 is at most PERIOD_PWM, which fits the register. -/
theorem clampedTorqueNeverOutOfRange : Obligations.ClampedTorqueNeverOutOfRange := by
  intro p t hclamp _
  obtain ⟨n, hscale, hle⟩ := scale_le_period p (fracRat_extended_minOne_le (torqueDuty p t))
  have hfits : n < 2 ^ 32 := hle.trans_lt p.periodPwm.isLt
  have hn : (BitVec.ofNat 32 n).toNat = n := by rw [BitVec.toNat_ofNat, Nat.mod_eq_of_lt hfits]
  refine ⟨(torqueDuty p t).minOne, BitVec.ofNat 32 n,
    (torqueCount_of_clamp hclamp t).trans (countFitting_of_fits hscale hfits), hn.symm ▸ hscale, hn.symm ▸ hle,
    fun hinf => ?_, fun x hx => ?_⟩
  · rw [hinf]
    simp [Extended.minOne, fracRat, Frac.one]
  · rw [hx]
    exact fracRat_minOne x

end Sys2Proof.Machine
end
